-- ==== Sys2Proof/Word.lean ====
section
/-! DEFINITION. The word of the machine: every host access, bus message and register moves one byte (R13, R74). -/

namespace Sys2Proof

/-- One byte, bit 0 the least significant (R14). -/
abbrev Byte := BitVec 8

end Sys2Proof
end

