-- ==== Sys2Proof/Machine/Crc8.lean ====
section
/-! DEFINITION. The CRC-8 unit and its validator (R210, R212, R213). -/

namespace Sys2Proof.Machine

/-- One of the eight iterations of R210 on (crc, inbyte). -/
def crcBit (crc inbyte : Byte) : Byte × Byte :=
  (if (crc ^^^ inbyte).getLsbD 0 then (crc >>> 1) ^^^ 0x8C#8 else crc >>> 1, inbyte >>> 1)

/-- `n` iterations; the crc they leave. -/
def crcBits : Nat → Byte → Byte → Byte
  | 0, crc, _ => crc
  | n + 1, crc, inbyte => crcBits n (crcBit crc inbyte).1 (crcBit crc inbyte).2

/-- One input byte: eight iterations (R210). -/
def crcByte (crc x : Byte) : Byte := crcBits 8 crc x

/-- The bytes of a sequence, first to last, from a crc. -/
def crcFrom (crc : Byte) (seq : List Byte) : Byte := seq.foldl crcByte crc

/-- `CRC8(seq)` (R210). -/
def crc8 (seq : List Byte) : Byte := crcFrom 0x00#8 seq

/-- `CRCValid(data, c)` (R212). -/
def crcValid (data : List Byte) (c : Byte) : Bool := decide (crc8 data = c)

end Sys2Proof.Machine
end

