-- ==== Sys2Proof/Config.lean ====
section
/-! DEFINITION. The parameters of 00_scope.md R12 as plain data, their two named variants (R4), and the values the
spec leaves free (R178, R270) as constants with no body. -/

namespace Sys2Proof

/-- `OPC`: the nine command opcodes (R101). -/
structure Opcodes where
  drst : Byte
  owrs : Byte
  owrb : Byte
  srp  : Byte
  wcfg : Byte
  owsb : Byte
  owwb : Byte
  owt  : Byte
  chsl : Byte
deriving DecidableEq, Repr

/-- `PTRC`: the four read-pointer codes (R110). -/
structure PointerCodes where
  status  : Byte
  rdata   : Byte
  channel : Byte
  config  : Byte
deriving DecidableEq, Repr

/-- `CLIENT_OPC`: the reference client's command bytes (R113). -/
structure ClientOpcodes where
  searchRom       : Byte
  readRom         : Byte
  matchRom        : Byte
  skipRom         : Byte
  alarmSearch     : Byte
  convertT        : Byte
  writeScratchpad : Byte
  readScratchpad  : Byte
  copyScratchpad  : Byte
  recallE2        : Byte
  readPowerSupply : Byte
deriving DecidableEq, Repr

/-- The parameters of R12 that are data of the whole machine. WIRING is `State.wiring`; SERIAL and TEMPERATURE are
inputs of a client's configuration (R231); OUTCOME_MAP is `Config.outcomeMap`. -/
structure Config where
  numChannels      : Nat
  opc              : Opcodes
  ptrc             : PointerCodes
  clientOpc        : ClientOpcodes
  statusReset      : Byte
  configReset      : Byte
  drstClearsAux    : Bool
  ppdClearOnAbsent : Bool
deriving DecidableEq, Repr

/-- The default `OPC` of R101 (decision D1). -/
def Opcodes.default : Opcodes :=
  { drst := 0xF0#8, owrs := 0xB4#8, owrb := 0x96#8, srp := 0xE1#8, wcfg := 0xD2#8, owsb := 0x87#8, owwb := 0xA5#8, owt := 0x78#8,
    chsl := 0xC3#8 }

/-- The default `PTRC` of R110 (decision D2). -/
def PointerCodes.default : PointerCodes :=
  { status := 0xF0#8, rdata := 0xE1#8, channel := 0xD2#8, config := 0xC3#8 }

/-- The default `CLIENT_OPC` of R113 (decision D32). -/
def ClientOpcodes.default : ClientOpcodes :=
  { searchRom := 0xF0#8, readRom := 0x33#8, matchRom := 0x55#8, skipRom := 0xCC#8, alarmSearch := 0xEC#8, convertT := 0x44#8,
    writeScratchpad := 0x4E#8, readScratchpad := 0xBE#8, copyScratchpad := 0x48#8, recallE2 := 0xB8#8, readPowerSupply := 0xB4#8 }

/-- The multi-channel variant at the defaults of R12. -/
def Config.eightChannel : Config :=
  { numChannels := 8, opc := .default, ptrc := .default, clientOpc := .default, statusReset := 0x06#8,
    configReset := 0x00#8, drstClearsAux := false, ppdClearOnAbsent := false }

/-- The single-channel variant at the defaults of R12. -/
def Config.oneChannel : Config := { Config.eightChannel with numChannels := 1 }

/-- The outcome of a host write (R250). -/
inductive WriteOutcome where
  /-- Command byte or payload accepted (R255). -/
  | ok
  /-- Any host write while `STATUS.1WB = 1` (R131). -/
  | busy
  /-- `OPC.CHSL` in Idle on a 1-channel bridge (R143, R252). -/
  | unsupported
  /-- A channel-select payload out of range (R143, R253). -/
  | invalidChannel
  /-- A byte in Idle that is no opcode (R144, R254). -/
  | ignored
deriving DecidableEq, Repr

/-- A call on a client that can change it (R220): the bus sends RESET with data 0 (R192). -/
inductive ClientCall where
  | reset
  | data (b : Byte)
  | recv
deriving DecidableEq, Repr

/-- FREE VALUE (log 6): `Draw()` of R178, a byte under no law; the argument counts the draws, so each read's is fresh. -/
opaque Config.draw : Nat → Byte

/-- FREE VALUE (log 7): the parameter `OUTCOME_MAP` of R270, which the spec leaves OPEN: the transport's response to an
outcome, as an uninterpreted code. -/
opaque Config.outcomeMap : WriteOutcome → Nat

/-- FREE VALUE (log 8): the client type R220 leaves a parameter: what the last `send` of a client of kind `n` returns, from
every call it has had, oldest first. -/
opaque Config.clientAck : Nat → List ClientCall → Int

/-- FREE VALUE (log 8): whether a client of kind `n` has data, from every call it has had. -/
opaque Config.clientHasData : Nat → List ClientCall → Bool

/-- FREE VALUE (log 8): the byte the next `recv` of a client of kind `n` returns, from every call before it. -/
opaque Config.clientByte : Nat → List ClientCall → Byte

end Sys2Proof
end

