-- ==== Sys2Proof/Machine/State.lean ====
section
/-! DEFINITION. The state of 10_state.md R30 to R56: the bridge registers, the wiring, the buses, the clients, the logs a
run is observed by, and the steps still to come; the reasons a step can stop; the power-on state (R281). -/

namespace Sys2Proof.Machine

/-- The kinds of diagnostic event (R257). -/
inductive Diag where
  | busyReject
  | unsupported
  | invalidChannel (idx : Nat)
  | unknownOpcode (w : Byte)
  | unknownPointer (ptr : Byte)
  | unknownChannel (chan : Nat)
  | unknownClientCommand (b : Byte)
  | recvEmpty
deriving DecidableEq, Repr

/-- The buffers a reference client's read cursor can point into (R222); `pwr` is the one-byte constant `[0xFF]`. -/
inductive Buffer where
  | rom
  | sp
  | pwr
deriving DecidableEq, Repr

/-- The pending-read cursor `Q = (buf, pos, rem)` (R222). -/
structure Cursor where
  buf : Buffer
  pos : Nat
  rem : Nat
deriving DecidableEq, Repr

/-- The reference temperature client (R222): ROM, SP, Q and TEMP, a signed 32-bit number of hundredths of a degree. -/
structure TempClient where
  rom  : Vector Byte 8
  sp   : Vector Byte 9
  q    : Cursor
  temp : BitVec 32
deriving DecidableEq, Repr

/-- A client of the interface of R220 that only has bytes queued, the `F[b0, b1, ...]` of 95_test_vectors.md, with the
integers its `send` returns (log 8). -/
structure QueueClient where
  resetAck : Int
  dataAck  : Int
  queue    : List Byte
deriving DecidableEq, Repr

/-- A client of any other type: its kind and every call it has had, oldest first; what it answers is a free function of
these (R220; log 8). -/
structure OtherClient where
  kind : Nat
  past : List ClientCall
deriving DecidableEq, Repr

/-- A client, as the tagged variant R220 asks for (log 8). -/
inductive Client where
  | temp (t : TempClient)
  | queued (q : QueueClient)
  | other (o : OtherClient)
deriving DecidableEq, Repr

/-- What a client's `send` does: the client after it, the integer it returns, the diagnostics it emits (R220). -/
structure ClientReply where
  client : Client
  ret    : Int
  diags  : List Diag
deriving DecidableEq, Repr

/-- A client and its "current bus" back-reference (R191, R221). -/
structure ClientSlot where
  dev : Client
  bus : Option Nat
deriving DecidableEq, Repr

/-- The upstream master of a bus (R52, R197): the only one in scope is the bridge. -/
inductive Master where
  | bridge
deriving DecidableEq, Repr

/-- A bus (R51, R52, R190): references to its clients in attachment order, and its master. It owns neither. -/
structure Bus where
  clients : List Nat
  master  : Option Master
deriving DecidableEq, Repr

/-- What the agent of a step got back (R91, R191, R197, R231). -/
inductive Response where
  /-- The outcome of a host write (R250). -/
  | outcome (o : WriteOutcome)
  /-- The byte of a host read (R170). -/
  | byte (b : Byte)
  /-- Whether a detach removed the client (R191). -/
  | detached (removed : Bool)
  /-- Whether a configuration input was taken (R231). -/
  | configured (ok : Bool)
  /-- The master `getMaster` reads (R197). -/
  | master (m : Option Master)
deriving DecidableEq, Repr

/-- One atomic step of one agent (R90). Clients are named by their place in `State.clients`, buses by their place in
`State.buses`. -/
inductive Event where
  /-- `HostWrite(w)` (R130). -/
  | hostWrite (w : Byte)
  /-- `HostRead()` (R170). -/
  | hostRead
  /-- `ForceBusy(v)`, the test harness (R93). -/
  | forceBusy (v : Bool)
  /-- The bridge receives an upstream RESET (R199). -/
  | upstreamReset
  /-- The bridge receives an upstream DATA (R200). -/
  | upstreamData (b : Byte)
  /-- The platform wires a channel to a bus or leaves it unwired (R92, R285). -/
  | wire (ch : Nat) (bus : Option Nat)
  /-- `setMaster(B, M)` (R197). -/
  | setMaster (bus : Nat) (m : Option Master)
  /-- `getMaster(B)` (R197; log 20). -/
  | getMaster (bus : Nat)
  /-- The platform creates a reference client, in its initial values (R222). -/
  | newTempClient
  /-- The platform creates a client with bytes queued (R220; log 8). -/
  | newQueueClient (q : QueueClient)
  /-- The platform creates a client of another type (R220; log 8). -/
  | newOtherClient (kind : Nat)
  /-- `attach(B, C)`; no bus is the null bus (R191). -/
  | attach (bus : Option Nat) (client : Nat)
  /-- `detach(B, C)` (R191). -/
  | detach (bus : Nat) (client : Nat)
  /-- The serial number of a client, as its characters (R231 (a)). -/
  | setSerial (client : Nat) (text : List Char)
  /-- The temperature of a client, hundredths of a degree (R231 (b)). -/
  | setTemperature (client : Nat) (t : BitVec 32)
deriving DecidableEq, Repr

/-- A step never stops with a fault: every error the spec names is an outcome of a host write, and every access
terminates (R250, R260, R269). So this type has no constructor. -/
inductive Fault where
deriving DecidableEq, Repr

/-- The steps the spec gives no move (R269), and instructions without a meaning. -/
inductive Refusal where
  /-- Raised by `exec` for an instruction that has no meaning yet; safe. No arm raises it. -/
  | notModelled (mnemonic : String)
  /-- Raised by `attachClient`: the client is already on another bus (R191, R269; D39); safe. -/
  | clientOnAnotherBus
  /-- Raised by `assignMaster`: a bus master would change after the first host access (R197, R269; D39); safe. -/
  | masterChangeAfterBoot
  /-- Raised by `wireChannel`: the wiring would change after the first host access (R285; D39); safe. -/
  | wiringChangeAfterBoot
  /-- Raised by `wireChannel`: the channel or the bus does not exist (log 20); safe. -/
  | noSuchChannelOrBus
  /-- Raised by the platform steps on a client that was never created (log 20); safe. -/
  | noSuchClient
deriving DecidableEq, Repr

/-- The state of the machine. -/
structure State where
  /-- The parameters (R12, R55); no step writes them (log 1). -/
  cfg : Config
  /-- STATUS (R36). -/
  status : Byte
  /-- CONFIG (R34). -/
  config : Byte
  /-- PTR, the read pointer (R33). -/
  ptr : Byte
  /-- PENDING; 0 is Idle (R32). -/
  pending : Byte
  /-- RDATA, the read-data buffer (R45). -/
  rdata : Byte
  /-- CURSOR, the bit cursor (R46). -/
  cursor : BitVec 3
  /-- ARMED, triplet-armed (R47). -/
  armed : Bool
  /-- CHAN, the selected channel (R48). -/
  chan : Nat
  /-- WIRING: the bus of each channel (R50). -/
  wiring : List (Option Nat)
  /-- The buses (R51, R52, R190). -/
  buses : List Bus
  /-- The clients, attached or not (R53, R221, R222). -/
  clients : List ClientSlot
  /-- Whether a host access has happened (R92, R197, R285; log 10). -/
  hostAccessed : Bool
  /-- MODEL'S OWN: how many draws were taken (R178; log 6). -/
  draws : Nat
  /-- The diagnostic log, oldest first; no rule reads it (R256; log 12). -/
  diag : List Diag
  /-- MODEL'S OWN: what the agents got back, oldest first (R91, R94; log 12). -/
  responses : List Response
  /-- MODEL'S OWN: the steps still to come, the run's program (R31, R94; log 2). -/
  input : List Event
deriving DecidableEq, Repr

/-- Power-on of a bridge with parameters `c` (R281, R54), every channel wired to its own bus (R12), the bridge the master
of each (R197), no client attached yet (R285; log 11). -/
def State.powerOn (c : Config) : State :=
  { cfg := c, status := c.statusReset, config := c.configReset, ptr := c.ptrc.status, pending := 0x00#8, rdata := 0x00#8,
    cursor := 0#3, armed := false, chan := 0, wiring := (List.range c.numChannels).map some,
    buses := List.replicate c.numChannels { clients := [], master := some .bridge }, clients := [],
    hostAccessed := false, draws := 0, diag := [], responses := [], input := [] }

/-- The machine right after power-on, at the defaults of R12: the `S0` of 95_test_vectors.md. -/
def State.reset : State := State.powerOn Config.eightChannel

end Sys2Proof.Machine
end

