-- ==== Sys2Proof/Machine/Operands.lean ====
section
/-! DEFINITION. The operand forms: the channel index of a payload (R111), the register a pointer code selects (R110,
R171), the channel read-back code (R183), the serial string (R231), the temperature word (R229). -/

namespace Sys2Proof.Machine

/-- `idx = w & 0xF` (R111). -/
def channelIndex (w : Byte) : Nat := (w &&& 0x0F#8).toNat

/-- The registers a host read can return (R72). -/
inductive Register where
  | status
  | rdata
  | config
  | channel
deriving DecidableEq, Repr

/-- The register `PTR` selects, in the order of R170; none for any other code (R116). -/
def selectedRegister (p : PointerCodes) (ptr : Byte) : Option Register :=
  if ptr = p.status then some .status
  else if ptr = p.rdata then some .rdata
  else if ptr = p.config then some .config
  else if ptr = p.channel then some .channel
  else none

/-- The channel read-back code (R183); none for an unrecognized channel. -/
def chanCode : Nat → Option Byte
  | 0 => some 0xB8#8
  | 1 => some 0xB1#8
  | 2 => some 0xAA#8
  | 3 => some 0xA3#8
  | 4 => some 0x9C#8
  | 5 => some 0x95#8
  | 6 => some 0x8E#8
  | 7 => some 0x87#8
  | _ => none

/-- The value of a hex digit, in either case of letter (log 15). -/
def hexDigit (c : Char) : Option Nat :=
  if '0'.toNat ≤ c.toNat ∧ c.toNat ≤ '9'.toNat then some (c.toNat - '0'.toNat)
  else if 'A'.toNat ≤ c.toNat ∧ c.toNat ≤ 'F'.toNat then some (c.toNat - 'A'.toNat + 10)
  else if 'a'.toNat ≤ c.toNat ∧ c.toNat ≤ 'f'.toNat then some (c.toNat - 'a'.toNat + 10)
  else none

/-- The byte of a hex pair, the first character the high nibble (R231; D28). -/
def hexPair (hi lo : Char) : Option Byte :=
  match hexDigit hi, hexDigit lo with
  | some h, some l => some (BitVec.ofNat 8 (16 * h + l))
  | _, _ => none

/-- The bytes of a string of hex pairs, left to right; none where a character is no hex digit or one is left over. -/
def hexBytes : List Char → Option (List Byte)
  | [] => some []
  | [_] => none
  | hi :: lo :: rest =>
    match hexPair hi lo, hexBytes rest with
    | some b, some bs => some (b :: bs)
    | _, _ => none

/-- The ROM identifier a serial string configures: pair `i` is `ROM[i]`; none unless it is exactly 16 hex digits (R231). -/
def parseSerial (text : List Char) : Option (Vector Byte 8) :=
  match hexBytes text with
  | some bs => if h : bs.length = 8 then some ⟨bs.toArray, by simp [h]⟩ else none
  | none => none

/-- `v = (trunc(TEMP / 100) << 4) mod 2^16` (R229), TEMP signed, the division toward zero (D30). -/
def temperatureWord (temp : BitVec 32) : BitVec 16 := BitVec.ofInt 16 (temp.toInt.tdiv 100 * 16)

end Sys2Proof.Machine
end

