-- ==== Sys2Proof/Machine/Client.lean ====
section
/-! DEFINITION. The three operations of a client (R220) and the reference temperature client's commands (R222 to R236). -/

namespace Sys2Proof.Machine

/-- A reference client as created: no serial, no temperature configured (R222; D29). -/
def TempClient.fresh : TempClient :=
  { rom := Vector.replicate 8 0x00#8, sp := Vector.replicate 9 0x00#8, q := { buf := .sp, pos := 0, rem := 0 }, temp := 0 }

/-- The bytes of the buffer a cursor points into (R222). -/
def TempClient.bufferBytes (t : TempClient) : Buffer → List Byte
  | .rom => t.rom.toList
  | .sp => t.sp.toList
  | .pwr => [0xFF#8]

/-- SEARCH_ROM: `Q <- (ROM, 0, 8)` (R225). -/
def TempClient.searchRom (t : TempClient) : TempClient := { t with q := { buf := .rom, pos := 0, rem := 8 } }

/-- READ_POWER_SUPPLY: `Q <- (PWR, 0, 1)` (R227). -/
def TempClient.readPowerSupply (t : TempClient) : TempClient := { t with q := { buf := .pwr, pos := 0, rem := 1 } }

/-- READ_SCRATCHPAD: `Q <- (SP, 0, 9)` (R230). -/
def TempClient.readScratchpad (t : TempClient) : TempClient := { t with q := { buf := .sp, pos := 0, rem := 9 } }

/-- The scratchpad with the temperature word at offsets 0 and 1, low byte first (R229). -/
def spWithTemperature (sp : Vector Byte 9) (v : BitVec 16) : Vector Byte 9 :=
  (sp.set 0 (v.extractLsb' 0 8)).set 1 (v.extractLsb' 8 8)

/-- The scratchpad with the CRC-8 of bytes 0 to 7 at offset 8 (R229). -/
def spWithChecksum (sp : Vector Byte 9) : Vector Byte 9 := sp.set 8 (crc8 (sp.toList.take 8))

/-- CONVERT_T (R229). -/
def TempClient.convertT (t : TempClient) : TempClient :=
  { t with sp := spWithChecksum (spWithTemperature t.sp (temperatureWord t.temp)) }

/-- `send(DATA, b)` of the reference client, without its return value: the case of R224. -/
def TempClient.data (o : ClientOpcodes) (b : Byte) (t : TempClient) : TempClient × List Diag :=
  if b = o.searchRom then (t.searchRom, [])
  else if b = o.skipRom then (t, [])
  else if b = o.readPowerSupply then (t.readPowerSupply, [])
  else if b = o.convertT then (t.convertT, [])
  else if b = o.readScratchpad then (t.readScratchpad, [])
  else (t, [.unknownClientCommand b])

/-- A message at a client of another type (log 8). -/
def OtherClient.send (call : ClientCall) (o : OtherClient) : ClientReply :=
  { client := .other { o with past := o.past ++ [call] }, ret := Config.clientAck o.kind (o.past ++ [call]), diags := [] }

/-- The DATA byte `b` at a client: the reference client does `f` and returns 0 (R224, R236); a queued client ignores it and
returns its integer; a client of another type answers freely (log 8). -/
def Client.onData (b : Byte) (f : TempClient → TempClient × List Diag) : Client → ClientReply
  | .temp t => { client := .temp (f t).1, ret := 0, diags := (f t).2 }
  | .queued q => { client := .queued q, ret := q.dataAck, diags := [] }
  | .other o => o.send (.data b)

/-- `send(DATA, b)` (R220, R224). -/
def Client.sendData (o : ClientOpcodes) (b : Byte) (c : Client) : ClientReply := c.onData b (TempClient.data o b)

/-- `send(RESET, d)` (R220, R223): the reference client returns 1 and changes nothing; `d` is not read. -/
def Client.sendReset : Client → ClientReply
  | .temp t => { client := .temp t, ret := 1, diags := [] }
  | .queued q => { client := .queued q, ret := q.resetAck, diags := [] }
  | .other o => o.send .reset

/-- `hasData()` (R220, R232). -/
def Client.hasData : Client → Bool
  | .temp t => decide (0 < t.q.rem)
  | .queued q => !q.queue.isEmpty
  | .other o => Config.clientHasData o.kind o.past

/-- `recv()` of the reference client (R233, R235): the byte, the client after it, its diagnostics. -/
def TempClient.recv (t : TempClient) : Byte × TempClient × List Diag :=
  if 0 < t.q.rem then
    ((t.bufferBytes t.q.buf)[t.q.pos]?.getD 0x00#8, { t with q := { t.q with pos := t.q.pos + 1, rem := t.q.rem - 1 } }, [])
  else (0x00#8, t, [.recvEmpty])

/-- `recv()` of a client with bytes queued. -/
def QueueClient.recv (q : QueueClient) : Byte × QueueClient × List Diag :=
  match q.queue with
  | b :: rest => (b, { q with queue := rest }, [])
  | [] => (0x00#8, q, [.recvEmpty])

/-- `recv()` of a client of another type (log 8). -/
def OtherClient.recv (o : OtherClient) : Byte × OtherClient × List Diag :=
  (Config.clientByte o.kind o.past, { o with past := o.past ++ [.recv] }, [])

/-- `recv()` (R220). -/
def Client.recv : Client → Byte × Client × List Diag
  | .temp t => (t.recv.1, .temp t.recv.2.1, t.recv.2.2)
  | .queued q => (q.recv.1, .queued q.recv.2.1, q.recv.2.2)
  | .other o => (o.recv.1, .other o.recv.2.1, o.recv.2.2)

end Sys2Proof.Machine
end

