-- ==== Sys2Proof/Machine/Flags.lean ====
section
/-! DEFINITION. The fields of STATUS (R36) and of CONFIG (R35), and every way a rule writes a STATUS bit. -/

namespace Sys2Proof.Machine

/-- `b` with bit `i` set to `v`, every other bit kept. -/
def writeBit (i : Nat) (v : Bool) (b : Byte) : Byte :=
  if v then b ||| (1#8 <<< i) else b &&& ~~~(1#8 <<< i)

/-- `STATUS.1WB`, busy (R37). -/
def State.busy (s : State) : Bool := s.status.getLsbD 0

/-- `STATUS.PPD`, presence-detect (R38). -/
def State.ppd (s : State) : Bool := s.status.getLsbD 1

/-- `STATUS.SD`, short-detect (R39). -/
def State.sd (s : State) : Bool := s.status.getLsbD 2

/-- `STATUS.LL`, logic-level (R40). -/
def State.ll (s : State) : Bool := s.status.getLsbD 3

/-- `STATUS.RST`, reset-indicator (R41). -/
def State.rst (s : State) : Bool := s.status.getLsbD 4

/-- `STATUS.SBR`, single-bit-result (R42). -/
def State.sbr (s : State) : Bool := s.status.getLsbD 5

/-- `STATUS.TSB`, triplet-second-bit (R43). -/
def State.tsb (s : State) : Bool := s.status.getLsbD 6

/-- `STATUS.DIR`, triplet-direction (R44). -/
def State.dir (s : State) : Bool := s.status.getLsbD 7

/-- `STATUS.1WB <- v` (R93). -/
def statusBusy (v : Bool) (st : Byte) : Byte := writeBit 0 v st

/-- `STATUS.PPD <- v` (R136, R199). -/
def statusPpd (v : Bool) (st : Byte) : Byte := writeBit 1 v st

/-- The flags of the triplet step (R176): extracted bit 1 clears TSB and sets DIR, bit 0 the other way. -/
def statusTriplet (bit : Bool) (st : Byte) : Byte := writeBit 7 bit (writeBit 6 (!bit) st)

/-- The PPD rule of 1WRS (R136): presence sets it, absence clears it only under `PPD_CLEAR_ON_ABSENT` (R38, D9). -/
def statusAfterReset (c : Config) (present : Bool) (st : Byte) : Byte :=
  if present then statusPpd true st else if c.ppdClearOnAbsent then statusPpd false st else st

/-- `CONFIG.APU`, active pull-up: informational, no rule reads it (R35). -/
def State.apu (s : State) : Bool := s.config.getLsbD 0

/-- `CONFIG.PPM`, bit 1, reserved on the 8-channel part: informational (R35). -/
def State.ppm (s : State) : Bool := s.config.getLsbD 1

/-- `CONFIG.SPU`, strong pull-up: informational (R35). -/
def State.spu (s : State) : Bool := s.config.getLsbD 2

/-- `CONFIG.1WS`, 1-Wire speed: informational (R35). -/
def State.ows (s : State) : Bool := s.config.getLsbD 3

end Sys2Proof.Machine
end

