-- ==== Sys2Proof/Machine/Ops.lean ====
section
/-! DEFINITION. The shared operations: the two logs, ending a host write with its outcome (the block's only error path,
R250, R260), the busy guard (R131), the two phases of an F2 command (R132, R133), and the bus operations (R192 to R196). -/

namespace Sys2Proof.Machine

/-- What a step answers. -/
abbrev Result := Host.Outcome State Fault Refusal

/-- The agent of the step gets `r` back (R91). -/
def State.respond (r : Response) (s : State) : State := { s with responses := s.responses ++ [r] }

/-- `emit Diag(d)`, for each event in order (R16, R256). -/
def State.emit (ds : List Diag) (s : State) : State := { s with diag := s.diag ++ ds }

/-- The host write returns outcome `o` (R250, R255). -/
def finish (o : WriteOutcome) (s : State) : Result := .next (s.respond (.outcome o))

/-- `emit Diag(d); raise o()`: the host write ends with a non-Ok outcome. No state is saved, no mode changed, no control
transferred (R16, R260). -/
def raise (o : WriteOutcome) (d : Diag) (s : State) : Result := finish o (s.emit [d])

/-- What the busy guard does to a host write (R131): the pending command is discarded, nothing else changes. -/
def busyReject (s : State) : Result := raise .busy .busyReject { s with pending := 0x00#8 }

/-- The busy guard before a command (R131, R258). -/
def guarded (body : State → Result) (s : State) : Result := if s.busy then busyReject s else body s

/-- An F2 command (R132, R133): behind the busy guard, its opcode phase in Idle, else its payload phase. -/
def twoPhase (opcodePhase payloadPhase : State → Result) (s : State) : Result :=
  guarded (fun s => if s.pending = 0x00#8 then opcodePhase s else payloadPhase s) s

/-- Opcode phase of an F2 command (R132): AwaitingPayload(op). -/
def awaitPayload (op : Byte) (s : State) : Result := finish .ok { s with pending := op }

/-- End of a payload phase (R134): back to Idle, outcome Ok. -/
def complete (s : State) : Result := finish .ok { s with pending := 0x00#8 }

/-- The bus wired to channel `ch` (R50); none for an unwired channel. -/
def State.busAt (s : State) (ch : Nat) : Option Bus :=
  match s.wiring[ch]? with
  | some (some b) => s.buses[b]?
  | _ => none

/-- The clients of the bus of channel `ch`, in attachment order: none on an unwired channel (R190, R196). -/
def State.clientsAt (s : State) (ch : Nat) : List Nat :=
  match s.busAt ch with
  | some b => b.clients
  | none => []

/-- The client `k` replaced, its back-reference kept. -/
def State.putClient (k : Nat) (slot : ClientSlot) (c : Client) (s : State) : State :=
  { s with clients := s.clients.set k { slot with dev := c } }

/-- A message to each client of a list in order (R84, R192, R193): the state after all of them, and whether any returned
non-zero. Every client receives it, also after one has answered. -/
def fanOut (send : Client → ClientReply) : List Nat → State → State × Bool
  | [], s => (s, false)
  | k :: ks, s =>
    match s.clients[k]? with
    | none => fanOut send ks s
    | some slot =>
      let r := send slot.dev
      let after := fanOut send ks ((s.putClient k slot r.client).emit r.diags)
      (after.1, decide (r.ret ≠ 0) || after.2)

/-- The read-back arbiter over a list of clients (R194): the first with data gives its next byte; 0x00 if none has any. -/
def readFirst : List Nat → State → State × Byte
  | [], s => (s, 0x00#8)
  | k :: ks, s =>
    match s.clients[k]? with
    | none => readFirst ks s
    | some slot =>
      if slot.dev.hasData then
        ((s.putClient k slot slot.dev.recv.2.1).emit slot.dev.recv.2.2, slot.dev.recv.1)
      else readFirst ks s

/-- `BusReset(ch)` (R192, R196). -/
def busReset (ch : Nat) (s : State) : State × Bool := fanOut Client.sendReset (s.clientsAt ch) s

/-- `BusWrite(ch, b)` (R193, R196). -/
def busWrite (ch : Nat) (b : Byte) (s : State) : State × Bool :=
  fanOut (Client.sendData s.cfg.clientOpc b) (s.clientsAt ch) s

/-- `BusRead(ch)` (R194, R196). -/
def busRead (ch : Nat) (s : State) : State × Byte := readFirst (s.clientsAt ch) s

/-- `BusWrite(CHAN, b)` with its result discarded (R133, R145, R200). -/
def sendSelected (b : Byte) (s : State) : State := (busWrite s.chan b s).1

/-- `RDATA <- BusRead(CHAN)` (R137, R174). -/
def latchByte (s : State) : State := { (busRead s.chan s).1 with rdata := (busRead s.chan s).2 }

/-- The command `b` received as a DATA byte by every client of the bus of CHAN (R193, R200; log 19): each reference client
does `f`. -/
def clientsRun (b : Byte) (f : TempClient → TempClient × List Diag) (s : State) : State :=
  (fanOut (Client.onData b f) (s.clientsAt s.chan) s).1

end Sys2Proof.Machine
end

