-- ==== Sys2Proof/Machine/Platform.lean ====
section
/-! DEFINITION. The steps of the platform (R92, R191, R197, R231, R285), the test harness (R93) and the upstream bus
agents (R199 to R201). -/

namespace Sys2Proof.Machine

/-- `ForceBusy(v)` (R93). -/
def forceBusy (v : Bool) (s : State) : State := { s with status := statusBusy v s.status }

/-- `UpstreamReset()` (R199). -/
def upstreamReset (s : State) : State := { s with status := statusPpd true s.status }

/-- `UpstreamData(b)` (R200): to the clients of the bus of CHAN; the result is discarded. -/
def upstreamData (b : Byte) (s : State) : State := sendSelected b s

/-- A bus that exists, or no bus. -/
def State.hasBus (s : State) : Option Nat → Bool
  | none => true
  | some b => decide (b < s.buses.length)

/-- Wire a channel to a bus, or leave it unwired, before the first host access (R92, R285; D39; log 10). -/
def wireChannel (ch : Nat) (bus : Option Nat) (s : State) : Result :=
  if s.hostAccessed && decide (s.wiring[ch]? ≠ some bus) then .refused .wiringChangeAfterBoot
  else if decide (ch < s.wiring.length) && s.hasBus bus then .next { s with wiring := s.wiring.set ch bus }
  else .refused .noSuchChannelOrBus

/-- `getMaster(B)` (R197). DESIGN CHOICE (log 20): of a bus that does not exist, which the spec gives no meaning, it answers
no master. -/
def State.masterOf (s : State) (bus : Nat) : Option Master :=
  match s.buses[bus]? with
  | some b => b.master
  | none => none

/-- `setMaster(B, M)` (R197): a change after the first host access has no move (D39; log 10). -/
def assignMaster (bus : Nat) (m : Option Master) (s : State) : Result :=
  if s.hostAccessed && decide (s.masterOf bus ≠ m) then .refused .masterChangeAfterBoot
  else
    match s.buses[bus]? with
    | some b => .next { s with buses := s.buses.set bus { b with master := m } }
    | none => .refused .noSuchChannelOrBus

/-- A client the platform creates, on no bus yet. -/
def createClient (c : Client) (s : State) : State := { s with clients := s.clients ++ [{ dev := c, bus := none }] }

/-- `attach(B, C)` (R191): silently nothing on a null bus; refused for a client on another bus (D39; log 9, log 20). -/
def attachClient (bus : Option Nat) (k : Nat) (s : State) : Result :=
  match bus with
  | none => .next s
  | some b =>
    match s.buses[b]?, s.clients[k]? with
    | none, _ => .next s
    | some _, none => .refused .noSuchClient
    | some bs, some slot =>
      if slot.bus = none ∨ slot.bus = some b then
        .next { s with buses := s.buses.set b { bs with clients := bs.clients ++ [k] },
                       clients := s.clients.set k { slot with bus := some b } }
      else .refused .clientOnAnotherBus

/-- `detach(B, C)` (R191): whether removal occurred. -/
def detachClient (bus k : Nat) (s : State) : State :=
  match s.buses[bus]?, s.clients[k]? with
  | some bs, some slot =>
    if k ∈ bs.clients then
      { s with buses := s.buses.set bus { bs with clients := bs.clients.filter (fun j => decide (j ≠ k)) },
               clients := s.clients.set k { slot with bus := none } }.respond (.detached true)
    else s.respond (.detached false)
  | _, _ => s.respond (.detached false)

/-- The serial number of a client (R231 (a)): a string that is not 16 hex digits changes nothing and is reported as a
failure, and so is a serial for a client that has none (log 20). -/
def configureSerial (k : Nat) (text : List Char) (s : State) : Result :=
  match s.clients[k]? with
  | none => .refused .noSuchClient
  | some slot =>
    match slot.dev, parseSerial text with
    | .temp t, some rom => .next ((s.putClient k slot (.temp { t with rom := rom })).respond (.configured true))
    | .temp _, none => .next (s.respond (.configured false))
    | .queued _, _ => .next (s.respond (.configured false))
    | .other _, _ => .next (s.respond (.configured false))

/-- The temperature of a client (R231 (b)): it takes effect at the next CONVERT_T. -/
def configureTemperature (k : Nat) (v : BitVec 32) (s : State) : Result :=
  match s.clients[k]? with
  | none => .refused .noSuchClient
  | some slot =>
    match slot.dev with
    | .temp t => .next ((s.putClient k slot (.temp { t with temp := v })).respond (.configured true))
    | .queued _ => .next (s.respond (.configured false))
    | .other _ => .next (s.respond (.configured false))

end Sys2Proof.Machine
end

