-- ==== Sys2Proof/Machine/RegisterRead.lean ====
section
/-! DEFINITION. The host read step and the triplet bit-search step (R170 to R185). -/

namespace Sys2Proof.Machine

/-- Refill when CURSOR = 0 (R174). -/
def tripletRefill (s : State) : State := if s.cursor = 0#3 then latchByte s else s

/-- The bit of RDATA that CURSOR names (R175). -/
def State.cursorBit (s : State) : Bool := s.rdata.getLsbD s.cursor.toNat

/-- Extract, advance, flags, disarm (R175 to R177), after the refill. -/
def tripletExtract (s : State) : State :=
  { s with cursor := s.cursor + 1, status := statusTriplet s.cursorBit s.status, armed := false }

/-- The triplet step (R173 to R177). -/
def tripletStep (s : State) : State := tripletExtract (tripletRefill s)

/-- The host read returns `b` (R170). -/
def State.returnByte (b : Byte) (s : State) : State := s.respond (.byte b)

/-- A status register read (R172, R173, R177): STATUS after the step the read may perform (D10). -/
def readStatus (s : State) : State :=
  if s.armed then (tripletStep s).returnByte (tripletStep s).status else s.returnByte s.status

/-- A channel-select register read (R181, R183): an unrecognized channel returns 0x00 with a diagnostic. -/
def readChannel (s : State) : State :=
  match chanCode s.chan with
  | some b => s.returnByte b
  | none => (s.emit [.unknownChannel s.chan]).returnByte 0x00#8

/-- A read under an unknown pointer (R178): a fresh draw, a diagnostic, nothing else. -/
def readUnknown (s : State) : State :=
  { (s.emit [.unknownPointer s.ptr]).returnByte (Config.draw s.draws) with draws := s.draws + 1 }

/-- `HostRead()` (R170). The busy bit does not gate it (R182). -/
def hostRead (s : State) : State :=
  match selectedRegister s.cfg.ptrc s.ptr with
  | some .status => readStatus s
  | some .rdata => s.returnByte s.rdata
  | some .config => s.returnByte s.config
  | some .channel => readChannel s
  | none => readUnknown s

end Sys2Proof.Machine
end

