-- ==== Sys2Proof/Syntax.lean ====
section
/-! DEFINITION. The instructions: one constructor per row of spec/opcode_table.json, the nine host commands with their
payload byte (R101, R105 to R111), then the eleven client commands (R113). -/

namespace Sys2Proof

/-- The instruction set (R3, R101, R113). -/
inductive Instr where
  /-- DRST, reset-bridge (R135). -/
  | drst
  /-- 1WRS, 1-wire-reset (R136). -/
  | owrs
  /-- 1WRB, 1-wire-read-byte (R137). -/
  | owrb
  /-- SRP, set-read-pointer; `p` the pointer code, stored raw (R138, R105). -/
  | srp (p : Byte)
  /-- WCFG, write-config; `c` the configuration byte (R139, R106). -/
  | wcfg (c : Byte)
  /-- 1WSB, 1-wire-single-bit; `b` broadcast whole (R140, R107). -/
  | owsb (b : Byte)
  /-- 1WWB, 1-wire-write-byte; `b` the data byte (R141, R108). -/
  | owwb (b : Byte)
  /-- 1WT, 1-wire-triplet; `d` broadcast whole (R142, R109). -/
  | owt (d : Byte)
  /-- CHSL, channel-select; bits 3:0 of `c` the index, bits 7:4 ignored (R143, R111). -/
  | chsl (c : Byte)
  /-- CLIENT.SEARCH_ROM (R225). -/
  | clientSearchRom
  /-- CLIENT.READ_ROM (R228). -/
  | clientReadRom
  /-- CLIENT.MATCH_ROM (R228). -/
  | clientMatchRom
  /-- CLIENT.SKIP_ROM (R226). -/
  | clientSkipRom
  /-- CLIENT.ALARM_SEARCH (R228). -/
  | clientAlarmSearch
  /-- CLIENT.CONVERT_T (R229). -/
  | clientConvertT
  /-- CLIENT.WRITE_SCRATCHPAD (R228). -/
  | clientWriteScratchpad
  /-- CLIENT.READ_SCRATCHPAD (R230). -/
  | clientReadScratchpad
  /-- CLIENT.COPY_SCRATCHPAD (R228). -/
  | clientCopyScratchpad
  /-- CLIENT.RECALL_E2 (R228). -/
  | clientRecallE2
  /-- CLIENT.READ_POWER_SUPPLY (R227). -/
  | clientReadPowerSupply
deriving DecidableEq, Repr

/-- A host command, as against a client command. -/
def Instr.isHost : Instr → Bool
  | .drst => true
  | .owrs => true
  | .owrb => true
  | .srp _ => true
  | .wcfg _ => true
  | .owsb _ => true
  | .owwb _ => true
  | .owt _ => true
  | .chsl _ => true
  | .clientSearchRom => false
  | .clientReadRom => false
  | .clientMatchRom => false
  | .clientSkipRom => false
  | .clientAlarmSearch => false
  | .clientConvertT => false
  | .clientWriteScratchpad => false
  | .clientReadScratchpad => false
  | .clientCopyScratchpad => false
  | .clientRecallE2 => false
  | .clientReadPowerSupply => false

/-- Format F2, opcode and payload (R100, R102). -/
def Instr.hasPayload : Instr → Bool
  | .drst => false
  | .owrs => false
  | .owrb => false
  | .srp _ => true
  | .wcfg _ => true
  | .owsb _ => true
  | .owwb _ => true
  | .owt _ => true
  | .chsl _ => true
  | .clientSearchRom => false
  | .clientReadRom => false
  | .clientMatchRom => false
  | .clientSkipRom => false
  | .clientAlarmSearch => false
  | .clientConvertT => false
  | .clientWriteScratchpad => false
  | .clientReadScratchpad => false
  | .clientCopyScratchpad => false
  | .clientRecallE2 => false
  | .clientReadPowerSupply => false

end Sys2Proof
end

