-- ==== Sys2Proof/WellFormed.lean ====
section
/-! DEFINITION. The constraints R12, R104, R103 and R282 put on the parameters and on an instruction, each a check. -/

namespace Sys2Proof

/-- The nine opcodes, in the order of R132. -/
def Opcodes.all (o : Opcodes) : List Byte := [o.drst, o.owrs, o.owrb, o.srp, o.wcfg, o.owsb, o.owwb, o.owt, o.chsl]

/-- The four pointer codes. -/
def PointerCodes.all (p : PointerCodes) : List Byte := [p.status, p.rdata, p.channel, p.config]

/-- The eleven client command bytes. -/
def ClientOpcodes.all (c : ClientOpcodes) : List Byte :=
  [c.searchRom, c.readRom, c.matchRom, c.skipRom, c.alarmSearch, c.convertT, c.writeScratchpad, c.readScratchpad,
    c.copyScratchpad, c.recallE2, c.readPowerSupply]

/-- R104 (a): no opcode is 0x00. -/
def Opcodes.nonzero (o : Opcodes) : Bool := decide (0x00#8 ∉ o.all)

/-- R104 (b): the opcodes are pairwise distinct. -/
def Opcodes.distinct (o : Opcodes) : Bool := decide o.all.Nodup

/-- R12: the pointer codes are pairwise distinct. -/
def PointerCodes.distinct (p : PointerCodes) : Bool := decide p.all.Nodup

/-- R12: the client command bytes are pairwise distinct. -/
def ClientOpcodes.distinct (c : ClientOpcodes) : Bool := decide c.all.Nodup

/-- R12: 1 ≤ NUM_CHANNELS ≤ 8. -/
def Config.channelsInRange (c : Config) : Bool := decide (1 ≤ c.numChannels ∧ c.numChannels ≤ 8)

/-- R12, R282: bit 0 of STATUS_RESET is 0, bits 1 and 2 are 1. -/
def Config.statusResetLegal (c : Config) : Bool :=
  !c.statusReset.getLsbD 0 && c.statusReset.getLsbD 1 && c.statusReset.getLsbD 2

/-- Every constraint of R12 and R104. -/
def Config.wellFormed (c : Config) : Bool :=
  c.opc.nonzero && c.opc.distinct && c.ptrc.distinct && c.clientOpc.distinct && c.channelsInRange && c.statusResetLegal

/-- An instruction the bridge of this configuration has (R102, R103): channel-select is a two-byte command only with more
than one channel. Every payload byte of every command is an encoding (R115). -/
def Instr.wellFormed (c : Config) : Instr → Bool
  | .drst => true
  | .owrs => true
  | .owrb => true
  | .srp _ => true
  | .wcfg _ => true
  | .owsb _ => true
  | .owwb _ => true
  | .owt _ => true
  | .chsl _ => decide (1 < c.numChannels)
  | .clientSearchRom => true
  | .clientReadRom => true
  | .clientMatchRom => true
  | .clientSkipRom => true
  | .clientAlarmSearch => true
  | .clientConvertT => true
  | .clientWriteScratchpad => true
  | .clientReadScratchpad => true
  | .clientCopyScratchpad => true
  | .clientRecallE2 => true
  | .clientReadPowerSupply => true

end Sys2Proof
end

