-- ==== Sys2Proof/Decode.lean ====
section
/-! DEFINITION. Decoding and encoding (30_encoding.md R100 to R118): host commands from their opcode and payload bytes,
client commands from a DATA byte; then the encoder, from the same tables. -/

namespace Sys2Proof

/-- Why bytes are no host command. -/
inductive DecodeReject where
  /-- No byte to decode. -/
  | noByte
  /-- A byte that is none of the nine opcodes (R114). -/
  | unrecognized (w : Byte)
  /-- An F2 opcode whose payload has not come yet: the sequencer awaits it (R100). -/
  | payloadMissing (op : Byte)
  /-- `OPC.CHSL` on a 1-channel bridge: it opens no payload phase (R103, R143). -/
  | channelSelectUnsupported
deriving DecidableEq, Repr

/-- What a byte sequence decodes to: an instruction and the bytes after it, or a rejection by name. -/
inductive Decoded where
  | instr (i : Instr) (rest : List Byte)
  | reject (why : DecodeReject)
deriving DecidableEq, Repr

/-- The command an opcode byte selects (R101), with `w` as its payload where it has one. -/
def decodeCommand (o : Opcodes) (op w : Byte) : Option Instr :=
  if op = o.drst then some .drst
  else if op = o.owrs then some .owrs
  else if op = o.owrb then some .owrb
  else if op = o.srp then some (.srp w)
  else if op = o.wcfg then some (.wcfg w)
  else if op = o.owsb then some (.owsb w)
  else if op = o.owwb then some (.owwb w)
  else if op = o.owt then some (.owt w)
  else if op = o.chsl then some (.chsl w)
  else none

/-- The F2 command a pending opcode and its payload are (R133); none where the opcode is no F2 opcode. -/
def decodePayload (o : Opcodes) (cmd w : Byte) : Option Instr :=
  (decodeCommand o cmd w).filter Instr.hasPayload

/-- The payload operand an F2 opcode carries before its payload byte has come: no effect of the opcode phase reads it
(log 4). -/
def payloadToCome : Byte := 0x00#8

/-- The command of an opcode byte received in Idle (R132). -/
def decodeOpcode (o : Opcodes) (w : Byte) : Option Instr := decodeCommand o w payloadToCome

/-- The client command a DATA byte is (R113, R224); none for a byte outside CLIENT_OPC (R117). -/
def decodeClient (o : ClientOpcodes) (b : Byte) : Option Instr :=
  if b = o.searchRom then some .clientSearchRom
  else if b = o.skipRom then some .clientSkipRom
  else if b = o.readPowerSupply then some .clientReadPowerSupply
  else if b = o.convertT then some .clientConvertT
  else if b = o.readScratchpad then some .clientReadScratchpad
  else if b = o.readRom then some .clientReadRom
  else if b = o.matchRom then some .clientMatchRom
  else if b = o.alarmSearch then some .clientAlarmSearch
  else if b = o.writeScratchpad then some .clientWriteScratchpad
  else if b = o.copyScratchpad then some .clientCopyScratchpad
  else if b = o.recallE2 then some .clientRecallE2
  else none

/-- The length rule of R103 over a sequence of host bytes starting in Idle. -/
def decode (c : Config) : List Byte → Decoded
  | [] => .reject .noByte
  | op :: rest =>
    match decodeOpcode c.opc op with
    | none => .reject (.unrecognized op)
    | some i =>
      if !i.hasPayload then .instr i rest
      else if !i.wellFormed c then .reject .channelSelectUnsupported
      else
        match rest with
        | [] => .reject (.payloadMissing op)
        | w :: rest' =>
          match decodePayload c.opc op w with
          | none => .reject (.unrecognized op)
          | some j => .instr j rest'

/-- The bytes of an instruction (R101, R113, R120). -/
def encode (c : Config) : Instr → List Byte
  | .drst => [c.opc.drst]
  | .owrs => [c.opc.owrs]
  | .owrb => [c.opc.owrb]
  | .srp p => [c.opc.srp, p]
  | .wcfg w => [c.opc.wcfg, w]
  | .owsb b => [c.opc.owsb, b]
  | .owwb b => [c.opc.owwb, b]
  | .owt d => [c.opc.owt, d]
  | .chsl w => [c.opc.chsl, w]
  | .clientSearchRom => [c.clientOpc.searchRom]
  | .clientReadRom => [c.clientOpc.readRom]
  | .clientMatchRom => [c.clientOpc.matchRom]
  | .clientSkipRom => [c.clientOpc.skipRom]
  | .clientAlarmSearch => [c.clientOpc.alarmSearch]
  | .clientConvertT => [c.clientOpc.convertT]
  | .clientWriteScratchpad => [c.clientOpc.writeScratchpad]
  | .clientReadScratchpad => [c.clientOpc.readScratchpad]
  | .clientCopyScratchpad => [c.clientOpc.copyScratchpad]
  | .clientRecallE2 => [c.clientOpc.recallE2]
  | .clientReadPowerSupply => [c.clientOpc.readPowerSupply]

/-- Byte `k` of an opcode-table word of `nbits` bits: bits `8k+7` to `8k`, 0 above `nbits`. -/
def tableByte (nbits w k : Nat) : Byte := BitVec.ofNat 8 (w % 2 ^ nbits / 2 ^ (8 * k))

/-- The instruction of an opcode-table word, at the defaults of R101 and R113: a host command where the first byte is a
host opcode, else a client command (log 3: the bytes 0xF0 and 0xB4 are both). -/
def decodeTableWord (nbits w : Nat) : Option Instr :=
  match decode .eightChannel [tableByte nbits w 0, tableByte nbits w 1] with
  | .instr i _ => some i
  | .reject _ => decodeClient .default (tableByte nbits w 0)

end Sys2Proof
end

