-- ==== Sys2Proof/Machine/ClientCommands.lean ====
section
/-! DEFINITION. The eleven client commands (R113, R225 to R230), one meaning each: the DATA byte of the command received
by every client of the bus of CHAN (R193, R200; log 19). -/

namespace Sys2Proof.Machine

/-- CLIENT.SEARCH_ROM (R225). -/
def execClientSearchRom (s : State) : Result :=
  .next (clientsRun s.cfg.clientOpc.searchRom (fun t => (t.searchRom, [])) s)

/-- CLIENT.SKIP_ROM (R226): the reference client does not change. -/
def execClientSkipRom (s : State) : Result :=
  .next (clientsRun s.cfg.clientOpc.skipRom (fun t => (t, [])) s)

/-- CLIENT.READ_POWER_SUPPLY (R227). -/
def execClientReadPowerSupply (s : State) : Result :=
  .next (clientsRun s.cfg.clientOpc.readPowerSupply (fun t => (t.readPowerSupply, [])) s)

/-- CLIENT.CONVERT_T (R229). -/
def execClientConvertT (s : State) : Result :=
  .next (clientsRun s.cfg.clientOpc.convertT (fun t => (t.convertT, [])) s)

/-- CLIENT.READ_SCRATCHPAD (R230). -/
def execClientReadScratchpad (s : State) : Result :=
  .next (clientsRun s.cfg.clientOpc.readScratchpad (fun t => (t.readScratchpad, [])) s)

/-- A command the reference client does not implement (R228): ignored, with a diagnostic. -/
def clientsIgnore (b : Byte) (s : State) : State :=
  clientsRun b (fun t => (t, [.unknownClientCommand b])) s

/-- CLIENT.READ_ROM (R228). -/
def execClientReadRom (s : State) : Result := .next (clientsIgnore s.cfg.clientOpc.readRom s)

/-- CLIENT.MATCH_ROM (R228). -/
def execClientMatchRom (s : State) : Result := .next (clientsIgnore s.cfg.clientOpc.matchRom s)

/-- CLIENT.ALARM_SEARCH (R228). -/
def execClientAlarmSearch (s : State) : Result := .next (clientsIgnore s.cfg.clientOpc.alarmSearch s)

/-- CLIENT.WRITE_SCRATCHPAD (R228). -/
def execClientWriteScratchpad (s : State) : Result := .next (clientsIgnore s.cfg.clientOpc.writeScratchpad s)

/-- CLIENT.COPY_SCRATCHPAD (R228). -/
def execClientCopyScratchpad (s : State) : Result := .next (clientsIgnore s.cfg.clientOpc.copyScratchpad s)

/-- CLIENT.RECALL_E2 (R228). -/
def execClientRecallE2 (s : State) : Result := .next (clientsIgnore s.cfg.clientOpc.recallE2 s)

end Sys2Proof.Machine
end

