-- ==== Sys2Proof/Machine/HostCommands.lean ====
section
/-! DEFINITION. The nine host commands (R135 to R143), one meaning each. A one-byte command is the write of its opcode in
Idle; a two-byte command is its opcode write in Idle and its payload write otherwise (log 4). -/

namespace Sys2Proof.Machine

/-- `RDATA <- 0x00; CURSOR <- 0; ARMED <- 0` if `DRST_CLEARS_AUX` (R135, D8). -/
def clearAux (s : State) : State :=
  if s.cfg.drstClearsAux then { s with rdata := 0x00#8, cursor := 0#3, armed := false } else s

/-- DRST (R135). -/
def execDrst (s : State) : Result :=
  guarded (fun s => finish .ok (clearAux
    { s with status := s.cfg.statusReset, config := s.cfg.configReset, ptr := s.cfg.ptrc.status, chan := 0 })) s

/-- The bridge after the bus has reported presence (R136, R198): PPD, and PTR on the status register. -/
def afterBusReset (present : Bool) (s : State) : State :=
  { s with status := statusAfterReset s.cfg present s.status, ptr := s.cfg.ptrc.status }

/-- 1WRS (R136). -/
def execOwrs (s : State) : Result :=
  guarded (fun s => finish .ok (afterBusReset (busReset s.chan s).2 (busReset s.chan s).1)) s

/-- 1WRB (R137): PTR, CURSOR and ARMED unchanged (D25). -/
def execOwrb (s : State) : Result := guarded (fun s => finish .ok (latchByte s)) s

/-- SRP (R138): the payload stored raw. -/
def execSrp (p : Byte) (s : State) : Result :=
  twoPhase (awaitPayload s.cfg.opc.srp) (fun s => complete { s with ptr := p }) s

/-- WCFG (R139): the payload stored verbatim, PTR on the configuration register. -/
def execWcfg (c : Byte) (s : State) : Result :=
  twoPhase (awaitPayload s.cfg.opc.wcfg) (fun s => complete { s with config := c, ptr := s.cfg.ptrc.config }) s

/-- The payload phase 1WSB, 1WWB and 1WT share (R133): the byte to the bus of CHAN, PTR on the status register. -/
def broadcastPayload (b : Byte) (s : State) : State := { sendSelected b s with ptr := s.cfg.ptrc.status }

/-- 1WSB (R140): SBR is not written (D12). -/
def execOwsb (b : Byte) (s : State) : Result :=
  twoPhase (awaitPayload s.cfg.opc.owsb) (fun s => complete (broadcastPayload b s)) s

/-- 1WWB (R141). -/
def execOwwb (b : Byte) (s : State) : Result :=
  twoPhase (awaitPayload s.cfg.opc.owwb) (fun s => complete (broadcastPayload b s)) s

/-- 1WT (R142): as 1WSB, and triplet-armed. -/
def execOwt (d : Byte) (s : State) : Result :=
  twoPhase (awaitPayload s.cfg.opc.owt) (fun s => complete { broadcastPayload d s with armed := true }) s

/-- CHSL, opcode phase (R143): on a 1-channel bridge `Unsupported`, PENDING kept at 0. -/
def channelSelectOpcode (s : State) : Result :=
  if s.cfg.numChannels = 1 then raise .unsupported .unsupported s else awaitPayload s.cfg.opc.chsl s

/-- CHSL, payload phase (R143): an index out of range is `InvalidChannel`, CHAN and PTR kept. -/
def channelSelectPayload (c : Byte) (s : State) : Result :=
  if s.cfg.numChannels ≤ channelIndex c then
    raise .invalidChannel (.invalidChannel (channelIndex c)) { s with pending := 0x00#8 }
  else complete { s with chan := channelIndex c, ptr := s.cfg.ptrc.channel }

/-- CHSL (R143). -/
def execChsl (c : Byte) (s : State) : Result := twoPhase channelSelectOpcode (channelSelectPayload c) s

end Sys2Proof.Machine
end

