-- ==== Sys2Proof/Machine/Dispatch.lean ====
section
/-! DEFINITION. The dispatch: one arm per instruction, each one call of its meaning. -/

namespace Sys2Proof.Machine
open Sys2Proof

def exec (i : Instr) (s : State) : Host.Outcome State Fault Refusal :=
  match i with
  | .drst => Sys2Proof.Machine.execDrst s
  | .owrs => Sys2Proof.Machine.execOwrs s
  | .owrb => Sys2Proof.Machine.execOwrb s
  | .srp p => Sys2Proof.Machine.execSrp p s
  | .wcfg c => Sys2Proof.Machine.execWcfg c s
  | .owsb b => Sys2Proof.Machine.execOwsb b s
  | .owwb b => Sys2Proof.Machine.execOwwb b s
  | .owt d => Sys2Proof.Machine.execOwt d s
  | .chsl c => Sys2Proof.Machine.execChsl c s
  | .clientSearchRom => Sys2Proof.Machine.execClientSearchRom s
  | .clientReadRom => Sys2Proof.Machine.execClientReadRom s
  | .clientMatchRom => Sys2Proof.Machine.execClientMatchRom s
  | .clientSkipRom => Sys2Proof.Machine.execClientSkipRom s
  | .clientAlarmSearch => Sys2Proof.Machine.execClientAlarmSearch s
  | .clientConvertT => Sys2Proof.Machine.execClientConvertT s
  | .clientWriteScratchpad => Sys2Proof.Machine.execClientWriteScratchpad s
  | .clientReadScratchpad => Sys2Proof.Machine.execClientReadScratchpad s
  | .clientCopyScratchpad => Sys2Proof.Machine.execClientCopyScratchpad s
  | .clientRecallE2 => Sys2Proof.Machine.execClientRecallE2 s
  | .clientReadPowerSupply => Sys2Proof.Machine.execClientReadPowerSupply s

end Sys2Proof.Machine
end

