-- ==== Sys2Proof/Machine/Sequencer.lean ====
section
/-! DEFINITION. The host write step (R130 to R134, R144), and its transport response (R270). -/

namespace Sys2Proof.Machine

/-- Unrecognized opcode (R144): ignored, diagnostic only. -/
def ignoreOpcode (w : Byte) (s : State) : Result := raise .ignored (.unknownOpcode w) s

/-- Opcode phase (R132). -/
def opcodePhase (w : Byte) (s : State) : Result :=
  match decodeOpcode s.cfg.opc w with
  | some i => exec i s
  | none => ignoreOpcode w s

/-- Payload phase (R133). A PENDING that is no F2 opcode, which no run reaches (R32), falls through to R134 (log 5). -/
def payloadPhase (w : Byte) (s : State) : Result :=
  match decodePayload s.cfg.opc s.pending w with
  | some i => exec i s
  | none => complete s

/-- `HostWrite(w)` (R130). -/
def hostWrite (w : Byte) (s : State) : Result :=
  guarded (fun s => if s.pending = 0x00#8 then opcodePhase w s else payloadPhase w s) s

/-- The numeric code of an outcome (R250). -/
def outcomeCode : WriteOutcome → Nat
  | .ok => 0
  | .busy => 1
  | .unsupported => 2
  | .invalidChannel => 3
  | .ignored => 4

/-- The transport's response to the last step, if it was a host write (R270). -/
def State.transportResponse (s : State) : Option Nat :=
  match s.responses.getLast? with
  | some (.outcome o) => some (Config.outcomeMap o)
  | _ => none

end Sys2Proof.Machine
end

