-- ==== Sys2Proof/Machine/Events.lean ====
section
/-! DEFINITION. One atomic step of one agent (R76, R90), taking the next step of the run (R31, R94), placing an instruction
as the next step, and the host-access program syntax (R119 to R121). -/

namespace Sys2Proof.Machine

/-- A host access has begun (R92, R197). -/
def State.accessed (s : State) : State := { s with hostAccessed := true }

/-- One atomic step (R90). -/
def runEvent (e : Event) (s : State) : Result :=
  match e with
  | .hostWrite w => hostWrite w s.accessed
  | .hostRead => .next (hostRead s.accessed)
  | .forceBusy v => .next (forceBusy v s)
  | .upstreamReset => .next (upstreamReset s)
  | .upstreamData b => .next (upstreamData b s)
  | .wire ch bus => wireChannel ch bus s
  | .setMaster bus m => assignMaster bus m s
  | .getMaster bus => .next (s.respond (.master (s.masterOf bus)))
  | .newTempClient => .next (createClient (.temp TempClient.fresh) s)
  | .newQueueClient q => .next (createClient (.queued q) s)
  | .newOtherClient kind => .next (createClient (.other { kind := kind, past := [] }) s)
  | .attach bus k => attachClient bus k s
  | .detach bus k => .next (detachClient bus k s)
  | .setSerial k text => configureSerial k text s
  | .setTemperature k v => configureTemperature k v s

/-- The next step of the run: with none to come, the machine waits (R281; log 2). -/
def runNext (s : State) : Result :=
  match s.input with
  | [] => .next s
  | e :: rest => runEvent e { s with input := rest }

/-- `s` with the instruction of an opcode-table word as its next step (log 3): a two-byte command with its opcode pending
and its payload the next host write; a one-byte command, and a byte that is no instruction, as a host write in Idle; a
client command as an upstream DATA. -/
def placeWord (s : State) (nbits w : Nat) : State :=
  let lo := tableByte nbits w 0
  let hi := tableByte nbits w 1
  match decodeCommand s.cfg.opc lo hi with
  | some i =>
    if i.hasPayload && i.wellFormed s.cfg then { s with pending := lo, input := .hostWrite hi :: s.input }
    else { s with pending := 0x00#8, input := .hostWrite lo :: s.input }
  | none =>
    match decodeClient s.cfg.clientOpc lo with
    | some _ => { s with input := .upstreamData lo :: s.input }
    | none => { s with pending := 0x00#8, input := .hostWrite lo :: s.input }

/-- The accesses a command line stands for (R119, R120); a client command goes out as a 1WWB of its byte (R141). -/
def commandAccesses (c : Config) (i : Instr) : List Event :=
  if i.isHost then (encode c i).map .hostWrite
  else (encode c i).flatMap (fun b => (encode c (.owwb b)).map .hostWrite)

/-- `RDREG p` (R121). -/
def rdreg (c : Config) (p : Byte) : List Event := commandAccesses c (.srp p) ++ [.hostRead]

/-- `RDSTATUS` (R121). -/
def rdstatus (c : Config) : List Event := rdreg c c.ptrc.status

/-- `RDBYTE` (R121). -/
def rdbyte (c : Config) : List Event := commandAccesses c .owrb ++ rdreg c c.ptrc.rdata

/-- `TRIPLET d` (R121). -/
def triplet (c : Config) (d : Byte) : List Event := commandAccesses c (.owt d) ++ [.hostRead]

end Sys2Proof.Machine
end

