-- ==== Sys2Proof/Machine/Step.lean ====
section
/-! DEFINITION. The step: the next atomic step of the run. -/

namespace Sys2Proof.Machine

/-- One step of the machine (R76, R90, R94). -/
def step (s : State) : Host.Outcome State Fault Refusal := runNext s

/-- `s` with an instruction placed as its very next step (log 3). -/
def State.withFetchWord (s : State) (nbits w : Nat) : State := placeWord s nbits w

end Sys2Proof.Machine
end

