-- ==== Sys2Proof/Safety.lean ====
section
/-! DEFINITION. What statements are said in: the invariant of the machine, the named premises of the spec, and the views of
a state that a frame compares. -/

namespace Sys2Proof.Machine

/-- The legal values of PENDING (R32). -/
def State.pendingLegal (s : State) : Bool :=
  decide (s.pending = 0x00#8 ∨ s.pending = s.cfg.opc.srp ∨ s.pending = s.cfg.opc.wcfg ∨ s.pending = s.cfg.opc.owsb ∨
    s.pending = s.cfg.opc.owwb ∨ s.pending = s.cfg.opc.owt ∨ (1 < s.cfg.numChannels ∧ s.pending = s.cfg.opc.chsl))

/-- SD, LL, RST and SBR hold their bits of STATUS_RESET (R39 to R42). -/
def State.resetBitsHeld (s : State) : Prop :=
  ∀ i : Nat, 2 ≤ i → i ≤ 5 → s.status.getLsbD i = s.cfg.statusReset.getLsbD i

/-- Where nothing may clear PPD it is 1 (R38, R136). -/
def State.ppdSticky (s : State) : Prop := s.cfg.ppdClearOnAbsent = false → s.ppd = true

/-- The list of a bus and the back-references of the clients agree (R190, R191, R221). -/
def State.attachmentsAgree (s : State) : Prop :=
  ∀ (b : Nat) (k : Nat),
    (∃ bs, s.buses[b]? = some bs ∧ k ∈ bs.clients) ↔ (∃ slot, s.clients[k]? = some slot ∧ slot.bus = some b)

/-- A read cursor stays inside its buffer (R222). -/
def TempClient.cursorInside (t : TempClient) : Prop := t.q.pos + t.q.rem ≤ (t.bufferBytes t.q.buf).length

/-- Every reference client's read cursor stays inside its buffer (R222). -/
def State.cursorsInside (s : State) : Prop :=
  ∀ (k : Nat) (slot : ClientSlot) (t : TempClient), s.clients[k]? = some slot → slot.dev = .temp t → t.cursorInside

/-- The invariant: legal parameters, a legal sequencing state (R32), a channel that exists (R48), a wiring entry for each
channel (R50), the status bits no command writes (R38 to R42), at most one bus for a client (R190), cursors inside their
buffers (R222). -/
structure State.Inv (s : State) : Prop where
  cfgLegal     : s.cfg.wellFormed = true
  pendingLegal : s.pendingLegal = true
  chanLegal    : s.chan < s.cfg.numChannels
  wiringTotal  : s.wiring.length = s.cfg.numChannels
  resetBits    : s.resetBitsHeld
  ppdSticky    : s.ppdSticky
  attachments  : s.attachmentsAgree
  cursors      : s.cursorsInside

/-- `SingleResponder(ch)` at one state (R195): at most one client of the bus holds data. -/
def State.singleResponder (s : State) (ch : Nat) : Prop :=
  ∀ (j k : Nat) (p q : ClientSlot), j ∈ s.clientsAt ch → k ∈ s.clientsAt ch → s.clients[j]? = some p →
    s.clients[k]? = some q → p.dev.hasData = true → q.dev.hasData = true → j = k

/-- A run to come that never uses the test harness: a claim about the block in use must assume it (R93, D14). -/
def State.noForceBusy (s : State) : Bool :=
  s.input.all (fun e => match e with | .forceBusy _ => false | _ => true)

/-- A client holds data for a read (R232). -/
def State.clientHasData (s : State) (k : Nat) : Bool :=
  match s.clients[k]? with
  | some slot => slot.dev.hasData
  | none => false

/-- What the client in `slot` is after `n` messages `send` (R220). -/
def ClientSlot.afterSends (send : Client → ClientReply) (n : Nat) (slot : ClientSlot) : ClientSlot :=
  { slot with dev := (fun c => (send c).client)^[n] slot.dev }

/-- `t` is `s` after the message `send` has gone to each place of the list `ks` in order (R84, R192, R193): every client got
it once for each place it has in the list, their diagnostics are logged in that order, nothing else changed; and `any` tells
whether any of these sends returned a non-zero integer. -/
structure FanOut (send : Client → ClientReply) (ks : List Nat) (s t : State) (any : Bool) : Prop where
  clients : ∀ k : Nat, t.clients[k]? = (s.clients[k]?).map (ClientSlot.afterSends send (ks.count k))
  answer  : any = true ↔ ∃ (i k : Nat) (slot : ClientSlot), ks[i]? = some k ∧ s.clients[k]? = some slot ∧
    (send (slot.afterSends send ((ks.take i).count k)).dev).ret ≠ 0
  diags   : t.diag = s.diag ++ ks.flatMap (fun k => ((s.clients[k]?).map (fun slot => (send slot.dev).diags)).getD [])
  others  : t = { s with clients := t.clients, diag := t.diag }

/-- A client is a reference temperature client (R222). -/
def State.isTempClient (s : State) (k : Nat) : Bool :=
  match s.clients[k]? with
  | some slot => match slot.dev with | .temp _ => true | .queued _ => false | .other _ => false
  | none => false

/-- `cs` are the clients after a DATA byte `b` to the bus of CHAN, as far as they are no reference clients (R145, R193): a
client off that bus is untouched, one of another type is as BusWrite leaves it. -/
def State.othersReceive (s : State) (b : Byte) (cs : List ClientSlot) : Prop :=
  ∀ k : Nat, (k ∉ s.clientsAt s.chan → cs[k]? = s.clients[k]?) ∧
    (s.isTempClient k = false → cs[k]? = (busWrite s.chan b s).1.clients[k]?)

end Sys2Proof.Machine
end

