-- ==== Sys2Proof/Certificates/Slice0/Obligations.lean ====
section
/-! DEFINITION. The statements for the provers, from the numbered rules of spec/. -/

open Sys2Proof Sys2Proof.Machine

/-! ### Encoding -/

/-- R100 to R103, R113: the bytes of every well-formed instruction decode back to it, for every legal choice of OPC and
CLIENT_OPC and every payload, whatever bytes follow a host command. -/
def Obligations.DecodeOfEncodeIsTheInstruction : Prop :=
  ∀ (c : Config) (i : Instr), c.wellFormed = true → i.wellFormed c = true →
    (i.isHost = true → ∀ rest : List Byte, decode c (encode c i ++ rest) = .instr i rest) ∧
    (i.isHost = false → ∃ b : Byte, encode c i = [b] ∧ decodeClient c.clientOpc b = some i)

/-- R101, R103, R113: bytes that decode to an instruction are that instruction's bytes, and nothing else decodes to it. -/
def Obligations.EncodeOfDecodeIsTheBytes : Prop :=
  (∀ (c : Config) (bytes rest : List Byte) (i : Instr), decode c bytes = .instr i rest →
    i.isHost = true ∧ i.wellFormed c = true ∧ bytes = encode c i ++ rest) ∧
  (∀ (c : Config) (b : Byte) (i : Instr), decodeClient c.clientOpc b = some i → i.isHost = false ∧ encode c i = [b])

/-- Words written out from R101 and R113 decode to what they stand for, at the default bytes (decisions D1, D32; log 3). -/
def Obligations.SpecWordsDecode : Prop :=
  decodeTableWord 8 0xF0 = some .drst ∧ decodeTableWord 8 0x96 = some .owrb ∧
  decodeTableWord 16 0xC3E1 = some (.srp 0xC3) ∧ decodeTableWord 16 0x13C3 = some (.chsl 0x13) ∧
  decodeTableWord 8 0x44 = some .clientConvertT ∧ decodeTableWord 8 0xBE = some .clientReadScratchpad ∧
  decodeTableWord 8 0x00 = none

/-- R103, R288: on a 1-channel bridge the channel-select opcode opens no payload phase: the bytes are rejected by name, and
the write of it is `Unsupported`, with PENDING still 0, so that the next byte is an opcode again. -/
def Obligations.ChannelSelectOnOneChannelTakesNoPayload : Prop :=
  ∀ (s : State) (rest : List Event) (bytes : List Byte), s.cfg.wellFormed = true → s.cfg.numChannels = 1 →
    s.busy = false → s.pending = 0x00#8 → s.input = .hostWrite s.cfg.opc.chsl :: rest →
    decode s.cfg (s.cfg.opc.chsl :: bytes) = .reject .channelSelectUnsupported ∧
    step s = .next { s with input := rest, hostAccessed := true, diag := s.diag ++ [.unsupported],
                            responses := s.responses ++ [.outcome .unsupported] }

/-! ### The step -/

/-- A host write that completes an instruction runs it: the opcode write in Idle, or the payload write under a pending
opcode; the step takes the write off the run (log 2) and marks that a host access happened (log 10). -/
def Obligations.StepRunsTheHostCommand : Prop :=
  ∀ (s : State) (w : Byte) (rest : List Event) (i : Instr), s.input = .hostWrite w :: rest →
    ((s.pending = 0x00#8 ∧ decodeOpcode s.cfg.opc w = some i) ∨
      (s.pending ≠ 0x00#8 ∧ decodePayload s.cfg.opc s.pending w = some i)) →
    step s = exec i { s with input := rest, hostAccessed := true }

/-- A DATA byte on the bus of CHAN that is a client command runs it (R200, R224; decision D33; log 19). -/
def Obligations.StepRunsTheClientCommand : Prop :=
  ∀ (s : State) (b : Byte) (rest : List Event) (i : Instr), s.input = .upstreamData b :: rest →
    decodeClient s.cfg.clientOpc b = some i → step s = exec i { s with input := rest }

/-- R141, R224, R293: a payload of 1WSB, 1WWB or 1WT that is a client command runs that command on the bus of CHAN. -/
def Obligations.BroadcastPayloadRunsTheClientCommand : Prop :=
  ∀ (s : State) (b : Byte) (i : Instr), decodeClient s.cfg.clientOpc b = some i →
    exec i s = .next (sendSelected b s)

/-- Log 3: a placed instruction is the very next step, for every legal configuration: a two-byte command with its opcode
pending, a one-byte command in Idle, a client byte that is no host opcode as an upstream DATA. -/
def Obligations.PlacedInstructionRunsNext : Prop :=
  ∀ (s : State) (i : Instr) (nbits w : Nat), s.cfg.wellFormed = true → i.wellFormed s.cfg = true →
    (i.hasPayload = true → encode s.cfg i = [tableByte nbits w 0, tableByte nbits w 1] →
      step (s.withFetchWord nbits w) = exec i { s with pending := tableByte nbits w 0, hostAccessed := true }) ∧
    (i.isHost = true → i.hasPayload = false → encode s.cfg i = [tableByte nbits w 0] →
      step (s.withFetchWord nbits w) = exec i { s with pending := 0x00#8, hostAccessed := true }) ∧
    (i.isHost = false → encode s.cfg i = [tableByte nbits w 0] → tableByte nbits w 0 ∉ s.cfg.opc.all →
      step (s.withFetchWord nbits w) = exec i s)

/-! ### Host writes -/

/-- R131: while busy every host write, in either phase, returns Busy; PENDING is 0 after it, one diagnostic is logged, and
everything else is kept. -/
def Obligations.BusyWriteIsRejected : Prop :=
  ∀ (s : State) (w : Byte) (rest : List Event), s.busy = true → s.input = .hostWrite w :: rest →
    step s = .next { s with input := rest, hostAccessed := true, pending := 0x00#8, diag := s.diag ++ [.busyReject],
                            responses := s.responses ++ [.outcome .busy] }

/-- R131, R258: while busy every host command is rejected with none of its effect, whatever its operand (log 4). -/
def Obligations.BusyCommandHasNoEffect : Prop :=
  ∀ (s : State) (i : Instr), s.busy = true → i.isHost = true →
    exec i s = .next { s with pending := 0x00#8, diag := s.diag ++ [.busyReject],
                              responses := s.responses ++ [.outcome .busy] }

/-- R132: the opcode phase, for every byte: a one-byte command runs and returns Ok, the opcode of a two-byte command becomes
pending, channel-select on one channel is Unsupported, and a byte that is no opcode is Ignored. -/
def Obligations.OpcodePhaseOfEveryByte : Prop :=
  ∀ (s s' : State) (w : Byte) (rest : List Event), s.cfg.wellFormed = true → s.busy = false → s.pending = 0x00#8 →
    s.input = .hostWrite w :: rest → s' = { s with input := rest, hostAccessed := true } →
    (∀ i : Instr, (w = s.cfg.opc.drst ∧ i = .drst) ∨ (w = s.cfg.opc.owrs ∧ i = .owrs) ∨
        (w = s.cfg.opc.owrb ∧ i = .owrb) →
      ∃ t, step s = .next t ∧ exec i s' = .next t ∧ t.responses = s.responses ++ [.outcome .ok]) ∧
    (w ∈ [s.cfg.opc.srp, s.cfg.opc.wcfg, s.cfg.opc.owsb, s.cfg.opc.owwb, s.cfg.opc.owt] →
      step s = .next { s' with pending := w, responses := s.responses ++ [.outcome .ok] }) ∧
    (w = s.cfg.opc.chsl → s.cfg.numChannels = 1 →
      step s = .next { s' with diag := s.diag ++ [.unsupported], responses := s.responses ++ [.outcome .unsupported] }) ∧
    (w = s.cfg.opc.chsl → s.cfg.numChannels ≠ 1 →
      step s = .next { s' with pending := w, responses := s.responses ++ [.outcome .ok] }) ∧
    (w ∉ s.cfg.opc.all →
      step s = .next { s' with diag := s.diag ++ [.unknownOpcode w], responses := s.responses ++ [.outcome .ignored] })

/-- R134: a payload write leaves PENDING = 0, whether its command succeeded or was rejected, busy or not. -/
def Obligations.PayloadWriteReturnsToIdle : Prop :=
  ∀ (s : State) (w : Byte) (rest : List Event), s.pending ≠ 0x00#8 → s.input = .hostWrite w :: rest →
    ∃ t, step s = .next t ∧ t.pending = 0x00#8

/-- R147, R259, R269 (decision D13): every host write ends in a next state and returns exactly one outcome. -/
def Obligations.EveryHostWriteReturnsOneOutcome : Prop :=
  ∀ (s : State) (w : Byte) (rest : List Event), s.input = .hostWrite w :: rest →
    ∃ t o, step s = .next t ∧ t.responses = s.responses ++ [.outcome o] ∧ t.input = rest

/-! ### The host commands -/

/-- R135 (decisions D5, D6, D8): DRST in Idle, all of the state after it. No bus, client or wiring changes (R284). -/
def Obligations.ResetBridgeResult : Prop :=
  ∀ s : State, s.busy = false → s.pending = 0x00#8 →
    exec .drst s = .next { s with
      status := s.cfg.statusReset, config := s.cfg.configReset, ptr := s.cfg.ptrc.status, chan := 0, pending := 0x00#8,
      rdata := if s.cfg.drstClearsAux then 0x00#8 else s.rdata,
      cursor := if s.cfg.drstClearsAux then 0#3 else s.cursor,
      armed := if s.cfg.drstClearsAux then false else s.armed,
      responses := s.responses ++ [.outcome .ok] }

/-- R136 (decision D9): 1WRS in Idle, all of the state after it: PPD from whether a client of the bus of CHAN acknowledged,
PTR on the status register, the clients as BusReset leaves them. -/
def Obligations.OneWireResetResult : Prop :=
  ∀ s : State, s.busy = false → s.pending = 0x00#8 →
    exec .owrs s = .next { s with
      status :=
        if (busReset s.chan s).2 then s.status ||| 0x02#8
        else if s.cfg.ppdClearOnAbsent then s.status &&& 0xFD#8 else s.status,
      ptr := s.cfg.ptrc.status, clients := (busReset s.chan s).1.clients, responses := s.responses ++ [.outcome .ok] }

/-- R137 (decision D25): 1WRB in Idle latches the byte of BusRead(CHAN) into RDATA; PTR, CURSOR and ARMED are kept. -/
def Obligations.ReadByteResult : Prop :=
  ∀ s : State, s.busy = false → s.pending = 0x00#8 →
    exec .owrb s = .next { s with
      rdata := (busRead s.chan s).2, clients := (busRead s.chan s).1.clients,
      responses := s.responses ++ [.outcome .ok] }

/-- R138 (decision D34): SRP, both phases (log 4), any pointer code. -/
def Obligations.SetReadPointerResult : Prop :=
  ∀ (s : State) (p : Byte), s.cfg.wellFormed = true → s.busy = false →
    (s.pending = 0x00#8 → exec (.srp p) s =
      .next { s with pending := s.cfg.opc.srp, responses := s.responses ++ [.outcome .ok] }) ∧
    (s.pending = s.cfg.opc.srp → exec (.srp p) s =
      .next { s with ptr := p, pending := 0x00#8, responses := s.responses ++ [.outcome .ok] })

/-- R139 (decision D26): WCFG, both phases (log 4), any configuration byte. -/
def Obligations.WriteConfigResult : Prop :=
  ∀ (s : State) (c : Byte), s.cfg.wellFormed = true → s.busy = false →
    (s.pending = 0x00#8 → exec (.wcfg c) s =
      .next { s with pending := s.cfg.opc.wcfg, responses := s.responses ++ [.outcome .ok] }) ∧
    (s.pending = s.cfg.opc.wcfg → exec (.wcfg c) s =
      .next { s with config := c, ptr := s.cfg.ptrc.config, pending := 0x00#8,
                     responses := s.responses ++ [.outcome .ok] })

/-- R140, R141: 1WSB and 1WWB, both phases, any byte: the whole byte goes to the clients of the bus of CHAN, PTR to the
status register; STATUS is not written (decision D12). -/
def Obligations.SingleBitAndWriteByteResult : Prop :=
  ∀ (s : State) (b : Byte), s.cfg.wellFormed = true → s.busy = false →
    (s.pending = 0x00#8 →
      exec (.owsb b) s = .next { s with pending := s.cfg.opc.owsb, responses := s.responses ++ [.outcome .ok] } ∧
      exec (.owwb b) s = .next { s with pending := s.cfg.opc.owwb, responses := s.responses ++ [.outcome .ok] }) ∧
    (s.pending = s.cfg.opc.owsb → exec (.owsb b) s =
      .next { s with clients := (busWrite s.chan b s).1.clients, diag := (busWrite s.chan b s).1.diag,
                     ptr := s.cfg.ptrc.status, pending := 0x00#8, responses := s.responses ++ [.outcome .ok] }) ∧
    (s.pending = s.cfg.opc.owwb → exec (.owwb b) s =
      .next { s with clients := (busWrite s.chan b s).1.clients, diag := (busWrite s.chan b s).1.diag,
                     ptr := s.cfg.ptrc.status, pending := 0x00#8, responses := s.responses ++ [.outcome .ok] })

/-- R142 (decision D24): 1WT, both phases, any byte: as 1WWB, and ARMED; CURSOR and STATUS are kept. -/
def Obligations.TripletCommandResult : Prop :=
  ∀ (s : State) (d : Byte), s.cfg.wellFormed = true → s.busy = false →
    (s.pending = 0x00#8 → exec (.owt d) s =
      .next { s with pending := s.cfg.opc.owt, responses := s.responses ++ [.outcome .ok] }) ∧
    (s.pending = s.cfg.opc.owt → exec (.owt d) s =
      .next { s with clients := (busWrite s.chan d s).1.clients, diag := (busWrite s.chan d s).1.diag,
                     ptr := s.cfg.ptrc.status, armed := true, pending := 0x00#8,
                     responses := s.responses ++ [.outcome .ok] })

/-- R143, R111: CHSL, both phases, any payload: the index is its low nibble. -/
def Obligations.ChannelSelectResult : Prop :=
  ∀ (s : State) (c : Byte), s.cfg.wellFormed = true → s.busy = false →
    (s.pending = 0x00#8 → s.cfg.numChannels = 1 → exec (.chsl c) s =
      .next { s with diag := s.diag ++ [.unsupported], responses := s.responses ++ [.outcome .unsupported] }) ∧
    (s.pending = 0x00#8 → s.cfg.numChannels ≠ 1 → exec (.chsl c) s =
      .next { s with pending := s.cfg.opc.chsl, responses := s.responses ++ [.outcome .ok] }) ∧
    (s.pending = s.cfg.opc.chsl → c.toNat % 16 < s.cfg.numChannels → exec (.chsl c) s =
      .next { s with chan := c.toNat % 16, ptr := s.cfg.ptrc.channel, pending := 0x00#8,
                     responses := s.responses ++ [.outcome .ok] }) ∧
    (s.pending = s.cfg.opc.chsl → s.cfg.numChannels ≤ c.toNat % 16 → exec (.chsl c) s =
      .next { s with pending := 0x00#8, diag := s.diag ++ [.invalidChannel (c.toNat % 16)],
                     responses := s.responses ++ [.outcome .invalidChannel] })

/-! ### Frames over all instructions -/

/-- R145: whatever the instruction, a client that is not on the bus of CHAN keeps its state, and no instruction changes a
bus, the wiring, a back-reference or the parameters. -/
def Obligations.InstructionStaysOnTheSelectedBus : Prop :=
  ∀ (i : Instr) (s t : State), exec i s = .next t →
    (∀ k : Nat, k ∉ s.clientsAt s.chan → t.clients[k]? = s.clients[k]?) ∧
    t.clients.map ClientSlot.bus = s.clients.map ClientSlot.bus ∧ t.buses = s.buses ∧ t.wiring = s.wiring ∧
    t.cfg = s.cfg ∧ t.input = s.input ∧ t.draws = s.draws ∧ t.hostAccessed = s.hostAccessed

/-- R30's table of writers: which instructions may change which bridge register. -/
def Obligations.RegisterWriters : Prop :=
  ∀ (i : Instr) (s t : State), exec i s = .next t →
    (t.config ≠ s.config → i = .drst ∨ ∃ c, i = .wcfg c) ∧
    (t.status ≠ s.status → i = .drst ∨ i = .owrs) ∧
    (t.rdata ≠ s.rdata → i = .owrb ∨ (i = .drst ∧ s.cfg.drstClearsAux = true)) ∧
    (t.cursor ≠ s.cursor → i = .drst ∧ s.cfg.drstClearsAux = true) ∧
    (t.armed ≠ s.armed → (∃ d, i = .owt d) ∨ (i = .drst ∧ s.cfg.drstClearsAux = true)) ∧
    (t.chan ≠ s.chan → i = .drst ∨ ∃ c, i = .chsl c) ∧
    (t.ptr ≠ s.ptr → i.isHost = true ∧ i ≠ .owrb) ∧
    (i.isHost = false → t.pending = s.pending ∧ t.responses = s.responses)

/-- R37 (decision D14): no instruction sets the busy bit. -/
def Obligations.NoInstructionSetsBusy : Prop :=
  ∀ (i : Instr) (s t : State), s.cfg.wellFormed = true → exec i s = .next t → t.busy = true → s.busy = true

/-! ### Host reads -/

/-- R172, R179: a read of the status register that is not armed returns STATUS, a read of the read-data register returns
RDATA, busy or not (R182, the spec's decision D23); neither changes a register, a bus or a client. -/
def Obligations.StatusAndDataReadsReturnTheRegister : Prop :=
  ∀ (s : State) (rest : List Event), s.cfg.wellFormed = true → s.input = .hostRead :: rest →
    (s.ptr = s.cfg.ptrc.status → s.armed = false →
      step s = .next { s with input := rest, hostAccessed := true, responses := s.responses ++ [.byte s.status] }) ∧
    (s.ptr = s.cfg.ptrc.rdata →
      step s = .next { s with input := rest, hostAccessed := true, responses := s.responses ++ [.byte s.rdata] })

/-- R180, R181, R183 (decision D26): a read of the configuration register returns CONFIG whole, a read of the channel-
select register the code 0xB8 - 7*CHAN; neither changes a register, a bus or a client. -/
def Obligations.ConfigAndChannelReadsReturnTheRegister : Prop :=
  ∀ (s : State) (rest : List Event), s.cfg.wellFormed = true → s.input = .hostRead :: rest →
    (s.ptr = s.cfg.ptrc.config →
      step s = .next { s with input := rest, hostAccessed := true, responses := s.responses ++ [.byte s.config] }) ∧
    (s.ptr = s.cfg.ptrc.channel → s.chan < 8 →
      step s = .next { s with input := rest, hostAccessed := true,
                              responses := s.responses ++ [.byte (BitVec.ofNat 8 (0xB8 - 7 * s.chan))] })

/-- R178 (decision D11): a read under a pointer that is none of the four codes returns a draw, a fresh one each read, and
changes no state but the logs. -/
def Obligations.UnknownPointerReadIsADraw : Prop :=
  ∀ (s : State) (rest : List Event), s.ptr ∉ s.cfg.ptrc.all → s.input = .hostRead :: rest →
    step s = .next { s with input := rest, hostAccessed := true, draws := s.draws + 1,
                            diag := s.diag ++ [.unknownPointer s.ptr],
                            responses := s.responses ++ [.byte (Config.draw s.draws)] }

/-- R173 to R177 (decisions D10, D12): an armed read of the status register refills RDATA from the bus of CHAN when
CURSOR is 0, extracts the bit CURSOR names, advances CURSOR modulo 8, sets DIR or TSB alone from the bit, disarms, and
returns the updated STATUS. -/
def Obligations.ArmedStatusReadIsOneTripletStep : Prop :=
  ∀ (s b : State) (x st : Byte) (rest : List Event), s.cfg.wellFormed = true → s.input = .hostRead :: rest →
    s.ptr = s.cfg.ptrc.status → s.armed = true →
    b = { s with input := rest, hostAccessed := true } →
    x = (if s.cursor = 0#3 then (busRead s.chan b).2 else s.rdata) →
    st = (s.status &&& 0x3F#8) ||| (if x.getLsbD s.cursor.toNat then 0x80#8 else 0x40#8) →
    step s = .next { b with
      clients := if s.cursor = 0#3 then (busRead s.chan b).1.clients else s.clients,
      rdata := x, cursor := BitVec.ofNat 3 ((s.cursor.toNat + 1) % 8), status := st, armed := false,
      responses := s.responses ++ [.byte st] }

/-- R175, R80: eight triplet steps from CURSOR 0 refill once and report the bits of that byte least significant first; after
them CURSOR is 0 again, so that the next step refills. -/
def Obligations.EightTripletStepsReadOneByte : Prop :=
  ∀ (s : State) (x : Byte), s.cursor = 0#3 → x = (busRead s.chan s).2 →
    (∀ k : Nat, k < 8 → (tripletStep^[k + 1] s).rdata = x ∧ (tripletStep^[k + 1] s).dir = x.getLsbD k ∧
      (tripletStep^[k + 1] s).tsb = !x.getLsbD k ∧
      (tripletStep^[k + 1] s).clients = (busRead s.chan s).1.clients) ∧
    (tripletStep^[8] s).cursor = 0#3

/-- R77, R146, R170: every host read, armed or not, ends in a next state with one byte returned, and writes neither
PENDING, PTR, CONFIG nor CHAN, nor any outcome. -/
def Obligations.HostReadKeepsTheSequencer : Prop :=
  ∀ (s : State) (rest : List Event), s.input = .hostRead :: rest →
    ∃ t b, step s = .next t ∧ t.responses = s.responses ++ [.byte b] ∧ t.pending = s.pending ∧ t.ptr = s.ptr ∧
      t.config = s.config ∧ t.chan = s.chan ∧ t.buses = s.buses ∧ t.wiring = s.wiring ∧
      (s.armed = false → t.status = s.status ∧ t.rdata = s.rdata ∧ t.cursor = s.cursor ∧ t.clients = s.clients)

/-- R121, R171: from Idle, the three accesses of `RDREG p` return the register `p` selects. -/
def Obligations.SelectedRegisterIsReadBack : Prop :=
  ∀ (s : State) (p v : Byte) (rest : List Event), s.cfg.wellFormed = true → s.busy = false → s.pending = 0x00#8 →
    s.armed = false → s.chan < 8 → s.input = rdreg s.cfg p ++ rest →
    ((p = s.cfg.ptrc.status ∧ v = s.status) ∨ (p = s.cfg.ptrc.rdata ∧ v = s.rdata) ∨
      (p = s.cfg.ptrc.config ∧ v = s.config) ∨
      (p = s.cfg.ptrc.channel ∧ v = BitVec.ofNat 8 (0xB8 - 7 * s.chan))) →
    Host.Core.run Sys2Proof.core 3 s = .next { s with
      input := rest, hostAccessed := true, ptr := p,
      responses := s.responses ++ [.outcome .ok, .outcome .ok, .byte v] }

/-! ### The buses -/

/-- R192: BusReset gives the RESET to every client of the bus in attachment order, also after one has answered, to no other
client, and tells whether any returned a non-zero integer; it changes nothing else. -/
def Obligations.BusResetReachesEveryClient : Prop :=
  ∀ (s : State) (ch : Nat), FanOut Client.sendReset (s.clientsAt ch) s (busReset ch s).1 (busReset ch s).2

/-- R193: BusWrite gives the byte to every client of the bus in attachment order, to no other client, and tells whether any
returned a non-zero integer; it changes nothing but clients and diagnostics. -/
def Obligations.BusWriteReachesEveryClient : Prop :=
  ∀ (s : State) (ch : Nat) (b : Byte),
    FanOut (Client.sendData s.cfg.clientOpc b) (s.clientsAt ch) s (busWrite ch b s).1 (busWrite ch b s).2

/-- R223, R196 (decision D31): a bus whose clients are reference clients reports presence exactly if it has one, and a RESET
changes nothing of them. -/
def Obligations.ReferenceClientsTellPresence : Prop :=
  ∀ (s : State) (ch : Nat), (∀ k ∈ s.clientsAt ch, s.isTempClient k = true) →
    busReset ch s = (s, !(s.clientsAt ch).isEmpty)

/-- R194: BusRead is answered by the first client in attachment order that has data, whose cursor alone advances; with none
it returns 0x00 and changes nothing. -/
def Obligations.FirstClientWithDataAnswers : Prop :=
  ∀ (s : State) (ch : Nat),
    ((∀ k ∈ s.clientsAt ch, s.clientHasData k = false) → busRead ch s = (s, 0x00#8)) ∧
    (∀ (before after : List Nat) (k : Nat) (slot : ClientSlot), s.clientsAt ch = before ++ k :: after →
      (∀ j ∈ before, s.clientHasData j = false) → s.clients[k]? = some slot → slot.dev.hasData = true →
      busRead ch s =
        ({ s with clients := s.clients.set k { slot with dev := slot.dev.recv.2.1 } }, slot.dev.recv.1))

/-- R196 (decision D15): an unwired channel behaves as a bus with no clients. -/
def Obligations.UnwiredChannelActsAsAnEmptyBus : Prop :=
  ∀ (s : State) (ch : Nat) (b : Byte), (s.wiring[ch]? = none ∨ s.wiring[ch]? = some none) →
    busReset ch s = (s, false) ∧ busWrite ch b s = (s, false) ∧ busRead ch s = (s, 0x00#8)

/-- R199: an upstream RESET sets PPD and changes nothing else. -/
def Obligations.UpstreamResetSetsPresence : Prop :=
  ∀ (s : State) (rest : List Event), s.input = .upstreamReset :: rest →
    step s = .next { s with input := rest, status := s.status ||| 0x02#8 }

/-- R200: upstream DATA goes to every client of the bus of CHAN and changes no bridge register. -/
def Obligations.UpstreamDataIsRebroadcast : Prop :=
  ∀ (s : State) (b : Byte) (rest : List Event), s.input = .upstreamData b :: rest →
    step s = .next { s with input := rest, clients := (busWrite s.chan b s).1.clients,
                            diag := (busWrite s.chan b s).1.diag }

/-- R93 (decision D14): ForceBusy writes STATUS.1WB and nothing else. -/
def Obligations.ForceBusyWritesTheBusyBit : Prop :=
  ∀ (s : State) (v : Bool) (rest : List Event), s.input = .forceBusy v :: rest →
    step s = .next { s with input := rest, status := if v then s.status ||| 0x01#8 else s.status &&& 0xFE#8 }

/-- R294 (decision D14): a forced busy bit stays until ForceBusy(0), whatever else any agent does. -/
def Obligations.ForcedBusySticks : Prop :=
  ∀ (s t : State) (e : Event) (rest : List Event), s.input = e :: rest → e ≠ .forceBusy false → s.busy = true →
    step s = .next t → t.busy = true

/-! ### CRC-8 -/

/-- R211, R212: a code is valid for a sequence exactly when the CRC-8 of the sequence with the code after it is 0; so
appending the computed code always gives 0. -/
def Obligations.ValidatorIsZeroResidue : Prop :=
  (∀ (data : List Byte) (c : Byte), crcValid data c = true ↔ crc8 (data ++ [c]) = 0x00#8) ∧
  (∀ data : List Byte, crc8 (data ++ [crc8 data]) = 0x00#8)

/-- R211: CRC-8 is linear over XOR of sequences of equal length. -/
def Obligations.CrcIsLinear : Prop :=
  ∀ a b : List Byte, a.length = b.length →
    crc8 (List.zipWith (fun x y => x ^^^ y) a b) = crc8 a ^^^ crc8 b

/-! ### The client commands -/

/-- R225, R227, R230: SEARCH_ROM, READ_POWER_SUPPLY and READ_SCRATCHPAD replace the read queue of every reference client on
the bus of CHAN and change nothing else of it, nothing of the bridge, and no client off that bus. That the command goes to
every client of that bus, one of another type getting the byte as BusWrite delivers it, is the model's reading (log 19). -/
def Obligations.QueueCommandsReplaceTheReadQueue : Prop :=
  ∀ (s : State) (i : Instr) (b : Byte) (q : Cursor),
    ((i = .clientSearchRom ∧ b = s.cfg.clientOpc.searchRom ∧ q = { buf := .rom, pos := 0, rem := 8 }) ∨
      (i = .clientReadPowerSupply ∧ b = s.cfg.clientOpc.readPowerSupply ∧ q = { buf := .pwr, pos := 0, rem := 1 }) ∨
      (i = .clientReadScratchpad ∧ b = s.cfg.clientOpc.readScratchpad ∧ q = { buf := .sp, pos := 0, rem := 9 })) →
    ∃ cs : List ClientSlot, exec i s = .next { s with clients := cs } ∧
      (∀ (k : Nat) (t : TempClient) (bus : Option Nat), k ∈ s.clientsAt s.chan →
        s.clients[k]? = some { dev := .temp t, bus := bus } →
        cs[k]? = some { dev := .temp { t with q := q }, bus := bus }) ∧
      s.othersReceive b cs

/-- R226: SKIP_ROM changes nothing of a reference client, nothing of the bridge, and no client off the bus of CHAN. That the
command goes to every client of that bus, one of another type getting the byte as BusWrite delivers it, is the model's
reading (log 19). -/
def Obligations.SkipRomChangesNothing : Prop :=
  ∀ s : State, ∃ cs : List ClientSlot, exec .clientSkipRom s = .next { s with clients := cs } ∧
    (∀ k : Nat, s.isTempClient k = true → cs[k]? = s.clients[k]?) ∧
    s.othersReceive s.cfg.clientOpc.skipRom cs

/-- R228: a named but unimplemented client command, and any DATA byte that is no client command, changes no reference client:
each one that receives it logs one diagnostic; the bridge and every client off the bus of CHAN are unchanged. That the byte
goes to every client of that bus, one of another type getting it as BusWrite delivers it, is the model's reading (log 19). -/
def Obligations.UnimplementedClientCommandsAreIgnored : Prop :=
  ∀ (s : State) (b : Byte) (ds : List Diag),
    ds = List.replicate ((s.clientsAt s.chan).filter s.isTempClient).length (.unknownClientCommand b) →
    (∀ i : Instr, i ∈ [Instr.clientReadRom, .clientMatchRom, .clientAlarmSearch, .clientWriteScratchpad,
        .clientCopyScratchpad, .clientRecallE2] → encode s.cfg i = [b] →
      ∃ cs : List ClientSlot, exec i s = .next { s with clients := cs, diag := s.diag ++ ds } ∧
        (∀ k : Nat, s.isTempClient k = true → cs[k]? = s.clients[k]?) ∧ s.othersReceive b cs) ∧
    (decodeClient s.cfg.clientOpc b = none →
      ∃ cs : List ClientSlot, sendSelected b s = { s with clients := cs, diag := s.diag ++ ds } ∧
        (∀ k : Nat, s.isTempClient k = true → cs[k]? = s.clients[k]?) ∧ s.othersReceive b cs)

/-- R229 (decision D30): CONVERT_T puts the 16-bit word of the whole degrees, shifted left by 4, into scratchpad bytes 0
(low) and 1 (high) and the CRC-8 of bytes 0 to 7 into byte 8 of every reference client on the bus of CHAN; bytes 2 to 7, the
read queue, the ROM, the temperature, the bridge and every client off that bus are unchanged. That the command goes to every
client of that bus, one of another type getting the byte as BusWrite delivers it, is the model's reading (log 19). -/
def Obligations.ConvertTemperatureResult : Prop :=
  ∀ s : State, ∃ cs : List ClientSlot, exec .clientConvertT s = .next { s with clients := cs } ∧
    (∀ (k : Nat) (t : TempClient) (bus : Option Nat), k ∈ s.clientsAt s.chan →
      s.clients[k]? = some { dev := .temp t, bus := bus } →
      ∃ sp : Vector Byte 9, cs[k]? = some { dev := .temp { t with sp := sp }, bus := bus } ∧
        (sp[0]).toNat + 256 * (sp[1]).toNat = (t.temp.toInt.tdiv 100 * 16 % 65536).toNat ∧
        (∀ j : Fin 9, 2 ≤ j.val → j.val ≤ 7 → sp[j] = t.sp[j]) ∧
        sp[8] = crc8 [sp[0], sp[1], sp[2], sp[3], sp[4], sp[5], sp[6], sp[7]]) ∧
    s.othersReceive s.cfg.clientOpc.convertT cs

/-- R232, R233, R235: a reference client has data exactly while `rem` is positive; recv then returns the byte the cursor
points at in its buffer and advances the cursor, and else returns 0x00, changes nothing and logs a protocol violation. -/
def Obligations.RecvReadsTheCursor : Prop :=
  ∀ t : TempClient,
    ((Client.temp t).hasData = true ↔ 0 < t.q.rem) ∧
    (∀ x : Byte, 0 < t.q.rem → (t.bufferBytes t.q.buf)[t.q.pos]? = some x →
      (Client.temp t).recv =
        (x, .temp { t with q := { buf := t.q.buf, pos := t.q.pos + 1, rem := t.q.rem - 1 } }, [])) ∧
    (t.q.rem = 0 → (Client.temp t).recv = (0x00#8, .temp t, [.recvEmpty]))

/-- R225, R230, R234 (decision D29): after SEARCH_ROM the first eight recv calls return ROM[0] to ROM[7] in order and then no
data is left; after READ_SCRATCHPAD nine calls return the scratchpad and then no data is left; a CONVERT_T after `j` of those
nine shows in every byte not yet read. -/
def Obligations.QueuedBytesComeBackInOrder : Prop :=
  ∀ (t : TempClient) (next : TempClient → TempClient), next = (fun u => u.recv.2.1) →
    (∀ j : Fin 8, (next^[j.val] t.searchRom).recv.1 = t.rom[j]) ∧
    (Client.temp (next^[8] t.searchRom)).hasData = false ∧
    (∀ j : Fin 9, (next^[j.val] t.readScratchpad).recv.1 = t.sp[j]) ∧
    (∀ (j m : Nat) (h : j + m < 9),
      (next^[m] (next^[j] t.readScratchpad).convertT).recv.1 = t.convertT.sp[j + m]) ∧
    (Client.temp (next^[9] t.readScratchpad)).hasData = false

/-! ### The platform -/

/-- R231 (a), D28: a serial string is taken exactly when it is 16 hex digits, and then pair `j` is ROM[j], its first
character the high nibble; otherwise the step reports failure and no client changes. -/
def Obligations.SerialIsSixteenHexDigits : Prop :=
  (∀ text : List Char, (parseSerial text).isSome = true ↔
    text.length = 16 ∧ ∀ c ∈ text, (hexDigit c).isSome = true) ∧
  (∀ (text : List Char) (rom : Vector Byte 8), parseSerial text = some rom → ∀ j : Fin 8, ∃ (a b : Char) (h l : Nat),
    text[2 * j.val]? = some a ∧ text[2 * j.val + 1]? = some b ∧ hexDigit a = some h ∧ hexDigit b = some l ∧
    rom[j].toNat = 16 * h + l) ∧
  (∀ (s : State) (k : Nat) (text : List Char) (rest : List Event) (slot : ClientSlot),
    s.input = .setSerial k text :: rest → s.clients[k]? = some slot → parseSerial text = none →
    step s = .next { s with input := rest, responses := s.responses ++ [.configured false] })

/-- R231 (decisions D28, D30): a legal serial writes ROM and a temperature writes TEMP of the client named, and nothing
else of it. -/
def Obligations.ConfigurationInputsWriteTheClient : Prop :=
  ∀ (s : State) (k : Nat) (t : TempClient) (bus : Option Nat) (rest : List Event),
    s.clients[k]? = some { dev := .temp t, bus := bus } →
    (∀ (text : List Char) (rom : Vector Byte 8), s.input = .setSerial k text :: rest → parseSerial text = some rom →
      step s = .next { s with input := rest, clients := s.clients.set k { dev := .temp { t with rom := rom }, bus := bus },
                              responses := s.responses ++ [.configured true] }) ∧
    (∀ v : BitVec 32, s.input = .setTemperature k v :: rest →
      step s = .next { s with input := rest, clients := s.clients.set k { dev := .temp { t with temp := v }, bus := bus },
                              responses := s.responses ++ [.configured true] })

/-- R222 (decision D29): a reference client the platform creates has ROM and SP all 0, an empty queue (SP, 0, 0) and TEMP 0,
until its serial and temperature are configured; it is on no bus yet (log 11), and nothing else changes. -/
def Obligations.NewReferenceClientIsFresh : Prop :=
  ∀ (s : State) (rest : List Event), s.input = .newTempClient :: rest →
    ∃ t : TempClient,
      step s = .next { s with input := rest, clients := s.clients ++ [{ dev := .temp t, bus := none }] } ∧
      (∀ j : Fin 8, t.rom[j] = 0x00#8) ∧ (∀ j : Fin 9, t.sp[j] = 0x00#8) ∧
      t.q = { buf := .sp, pos := 0, rem := 0 } ∧ (Client.temp t).hasData = false ∧ t.temp.toInt = 0

/-- R191, R269 (decision D39): attach appends the client to the list of the bus and sets its back-reference; on a null bus it
does nothing; a client already on another bus is refused. That a client already on this same bus is appended once more is the
model's reading (log 9). -/
def Obligations.AttachAppendsOrIsRefused : Prop :=
  ∀ (s : State) (b k : Nat) (bs : Bus) (slot : ClientSlot) (rest : List Event), s.clients[k]? = some slot →
    (s.input = .attach (some b) k :: rest → s.buses[b]? = some bs → slot.bus = none →
      step s = .next { s with input := rest, buses := s.buses.set b { bs with clients := bs.clients ++ [k] },
                              clients := s.clients.set k { slot with bus := some b } }) ∧
    (s.input = .attach (some b) k :: rest → s.buses[b]? = some bs → slot.bus = some b →
      step s = .next { s with input := rest, buses := s.buses.set b { bs with clients := bs.clients ++ [k] } }) ∧
    (s.input = .attach none k :: rest → step s = .next { s with input := rest }) ∧
    (∀ other : Nat, s.input = .attach (some b) k :: rest → s.buses[b]? = some bs → slot.bus = some other → other ≠ b →
      step s = .refused .clientOnAnotherBus)

/-- R191 (log 9): detach removes an attached client from the list, clears its back-reference and answers true; otherwise it
changes nothing and answers false. -/
def Obligations.DetachRemovesOrAnswersFalse : Prop :=
  ∀ (s : State) (b k : Nat) (bs : Bus) (slot : ClientSlot) (rest : List Event), s.input = .detach b k :: rest →
    s.buses[b]? = some bs → s.clients[k]? = some slot →
    (k ∈ bs.clients → ∃ l : List Nat, k ∉ l ∧ (∀ j : Nat, j ≠ k → l.count j = bs.clients.count j) ∧
      l.Sublist bs.clients ∧
      step s = .next { s with input := rest, buses := s.buses.set b { bs with clients := l },
                              clients := s.clients.set k { slot with bus := none },
                              responses := s.responses ++ [.detached true] }) ∧
    (k ∉ bs.clients →
      step s = .next { s with input := rest, responses := s.responses ++ [.detached false] })

/-- R197, R269 (decision D39; log 10): before the first host access a bus master can be set; after it a change is
refused, and a step that changes nothing is allowed. -/
def Obligations.MasterIsSetOnlyAtBoot : Prop :=
  ∀ (s : State) (b : Nat) (m : Option Master) (bs : Bus) (rest : List Event), s.input = .setMaster b m :: rest →
    s.buses[b]? = some bs →
    (s.hostAccessed = false →
      step s = .next { s with input := rest, buses := s.buses.set b { bs with master := m } }) ∧
    (s.hostAccessed = true → bs.master ≠ m → step s = .refused .masterChangeAfterBoot) ∧
    (s.hostAccessed = true → bs.master = m → step s = .next { s with input := rest })

/-- R50, R92, R285 (decision D39; log 10): before the first host access the platform can wire a channel to a bus or leave it
unwired, which writes that entry of the wiring and nothing else; after it a change is refused, and a step that changes
nothing is allowed. -/
def Obligations.WiringIsSetOnlyAtBoot : Prop :=
  ∀ (s : State) (ch : Nat) (bus : Option Nat) (rest : List Event), s.input = .wire ch bus :: rest →
    ch < s.wiring.length → (∀ b : Nat, bus = some b → b < s.buses.length) →
    (s.hostAccessed = false → step s = .next { s with input := rest, wiring := s.wiring.set ch bus }) ∧
    (s.hostAccessed = true → s.wiring[ch]? ≠ some bus → step s = .refused .wiringChangeAfterBoot) ∧
    (s.hostAccessed = true → s.wiring[ch]? = some bus → step s = .next { s with input := rest })

/-- R50, R55, R197 (decision D39; log 1, log 10): no step changes the parameters; once a host access has happened no step
changes the wiring or a bus's master, or forgets that it happened. -/
def Obligations.BootSettingsAreFixedAfterBoot : Prop :=
  ∀ s t : State, step s = .next t →
    t.cfg = s.cfg ∧
    (s.hostAccessed = true → t.hostAccessed = true ∧ t.wiring = s.wiring ∧
      t.buses.map Bus.master = s.buses.map Bus.master)

/-! ### Reset and the invariant -/

/-- R281, R54 (decisions D5 to D7): the power-on values, for every choice of the parameters; at the defaults these are the
numbers of `S0`. -/
def Obligations.PowerOnValues : Prop :=
  (∀ c : Config, (State.powerOn c).status = c.statusReset ∧ (State.powerOn c).config = c.configReset ∧
    (State.powerOn c).ptr = c.ptrc.status ∧ (State.powerOn c).chan = 0 ∧ (State.powerOn c).pending = 0x00#8 ∧
    (State.powerOn c).rdata = 0x00#8 ∧ (State.powerOn c).cursor = 0#3 ∧ (State.powerOn c).armed = false) ∧
  State.reset.status = 0x06#8 ∧ State.reset.config = 0x00#8 ∧ State.reset.ptr = 0xF0#8

/-- The invariant holds at power-on (decisions D5 to D7; log 11) of every legal configuration, and so at reset. -/
def Obligations.PowerOnMeetsTheInvariant : Prop :=
  (∀ c : Config, c.wellFormed = true → (State.powerOn c).Inv) ∧ State.reset.Inv

/-- Every step of every agent keeps the invariant: a legal PENDING (R32), CHAN below NUM_CHANNELS (R48), SD, LL, RST and SBR
as at reset (R39 to R42; decisions D5, D12), PPD where nothing clears it (R38; decision D9), at most one bus a client
(R190), read cursors inside their buffers (R222). -/
def Obligations.EveryStepKeepsTheInvariant : Prop := ∀ s t : State, s.Inv → step s = .next t → t.Inv
end

