-- ==== Sys2Proof/Laws/State.lean ====
section
/-! SUPPORT. One lemma per field per update of State: what `respond`, `emit`, `putClient` and `accessed` write, and that they
keep every other field. -/

namespace Sys2Proof.Machine

variable (s : State) (r : Response) (ds : List Diag) (k : Nat) (slot : ClientSlot) (c : Client)

@[simp] theorem State.respond_responses : (s.respond r).responses = s.responses ++ [r] := rfl
@[simp] theorem State.respond_cfg : (s.respond r).cfg = s.cfg := rfl
@[simp] theorem State.respond_status : (s.respond r).status = s.status := rfl
@[simp] theorem State.respond_config : (s.respond r).config = s.config := rfl
@[simp] theorem State.respond_ptr : (s.respond r).ptr = s.ptr := rfl
@[simp] theorem State.respond_pending : (s.respond r).pending = s.pending := rfl
@[simp] theorem State.respond_rdata : (s.respond r).rdata = s.rdata := rfl
@[simp] theorem State.respond_cursor : (s.respond r).cursor = s.cursor := rfl
@[simp] theorem State.respond_armed : (s.respond r).armed = s.armed := rfl
@[simp] theorem State.respond_chan : (s.respond r).chan = s.chan := rfl
@[simp] theorem State.respond_wiring : (s.respond r).wiring = s.wiring := rfl
@[simp] theorem State.respond_buses : (s.respond r).buses = s.buses := rfl
@[simp] theorem State.respond_clients : (s.respond r).clients = s.clients := rfl
@[simp] theorem State.respond_hostAccessed : (s.respond r).hostAccessed = s.hostAccessed := rfl
@[simp] theorem State.respond_draws : (s.respond r).draws = s.draws := rfl
@[simp] theorem State.respond_diag : (s.respond r).diag = s.diag := rfl
@[simp] theorem State.respond_input : (s.respond r).input = s.input := rfl

@[simp] theorem State.emit_diag : (s.emit ds).diag = s.diag ++ ds := rfl
@[simp] theorem State.emit_cfg : (s.emit ds).cfg = s.cfg := rfl
@[simp] theorem State.emit_status : (s.emit ds).status = s.status := rfl
@[simp] theorem State.emit_config : (s.emit ds).config = s.config := rfl
@[simp] theorem State.emit_ptr : (s.emit ds).ptr = s.ptr := rfl
@[simp] theorem State.emit_pending : (s.emit ds).pending = s.pending := rfl
@[simp] theorem State.emit_rdata : (s.emit ds).rdata = s.rdata := rfl
@[simp] theorem State.emit_cursor : (s.emit ds).cursor = s.cursor := rfl
@[simp] theorem State.emit_armed : (s.emit ds).armed = s.armed := rfl
@[simp] theorem State.emit_chan : (s.emit ds).chan = s.chan := rfl
@[simp] theorem State.emit_wiring : (s.emit ds).wiring = s.wiring := rfl
@[simp] theorem State.emit_buses : (s.emit ds).buses = s.buses := rfl
@[simp] theorem State.emit_clients : (s.emit ds).clients = s.clients := rfl
@[simp] theorem State.emit_hostAccessed : (s.emit ds).hostAccessed = s.hostAccessed := rfl
@[simp] theorem State.emit_draws : (s.emit ds).draws = s.draws := rfl
@[simp] theorem State.emit_responses : (s.emit ds).responses = s.responses := rfl
@[simp] theorem State.emit_input : (s.emit ds).input = s.input := rfl

@[simp] theorem State.putClient_clients : (s.putClient k slot c).clients = s.clients.set k { slot with dev := c } := rfl
@[simp] theorem State.putClient_cfg : (s.putClient k slot c).cfg = s.cfg := rfl
@[simp] theorem State.putClient_status : (s.putClient k slot c).status = s.status := rfl
@[simp] theorem State.putClient_config : (s.putClient k slot c).config = s.config := rfl
@[simp] theorem State.putClient_ptr : (s.putClient k slot c).ptr = s.ptr := rfl
@[simp] theorem State.putClient_pending : (s.putClient k slot c).pending = s.pending := rfl
@[simp] theorem State.putClient_rdata : (s.putClient k slot c).rdata = s.rdata := rfl
@[simp] theorem State.putClient_cursor : (s.putClient k slot c).cursor = s.cursor := rfl
@[simp] theorem State.putClient_armed : (s.putClient k slot c).armed = s.armed := rfl
@[simp] theorem State.putClient_chan : (s.putClient k slot c).chan = s.chan := rfl
@[simp] theorem State.putClient_wiring : (s.putClient k slot c).wiring = s.wiring := rfl
@[simp] theorem State.putClient_buses : (s.putClient k slot c).buses = s.buses := rfl
@[simp] theorem State.putClient_hostAccessed : (s.putClient k slot c).hostAccessed = s.hostAccessed := rfl
@[simp] theorem State.putClient_draws : (s.putClient k slot c).draws = s.draws := rfl
@[simp] theorem State.putClient_diag : (s.putClient k slot c).diag = s.diag := rfl
@[simp] theorem State.putClient_responses : (s.putClient k slot c).responses = s.responses := rfl
@[simp] theorem State.putClient_input : (s.putClient k slot c).input = s.input := rfl

@[simp] theorem State.accessed_hostAccessed : (s.accessed).hostAccessed = true := rfl
@[simp] theorem State.accessed_cfg : (s.accessed).cfg = s.cfg := rfl
@[simp] theorem State.accessed_status : (s.accessed).status = s.status := rfl
@[simp] theorem State.accessed_config : (s.accessed).config = s.config := rfl
@[simp] theorem State.accessed_ptr : (s.accessed).ptr = s.ptr := rfl
@[simp] theorem State.accessed_pending : (s.accessed).pending = s.pending := rfl
@[simp] theorem State.accessed_rdata : (s.accessed).rdata = s.rdata := rfl
@[simp] theorem State.accessed_cursor : (s.accessed).cursor = s.cursor := rfl
@[simp] theorem State.accessed_armed : (s.accessed).armed = s.armed := rfl
@[simp] theorem State.accessed_chan : (s.accessed).chan = s.chan := rfl
@[simp] theorem State.accessed_wiring : (s.accessed).wiring = s.wiring := rfl
@[simp] theorem State.accessed_buses : (s.accessed).buses = s.buses := rfl
@[simp] theorem State.accessed_clients : (s.accessed).clients = s.clients := rfl
@[simp] theorem State.accessed_draws : (s.accessed).draws = s.draws := rfl
@[simp] theorem State.accessed_diag : (s.accessed).diag = s.diag := rfl
@[simp] theorem State.accessed_responses : (s.accessed).responses = s.responses := rfl
@[simp] theorem State.accessed_input : (s.accessed).input = s.input := rfl

@[simp] theorem State.emit_nil : s.emit [] = s := by simp [State.emit]

end Sys2Proof.Machine
end

