-- ==== Sys2Proof/Laws/Ops.lean ====
section
/-! SUPPORT. What the shared operations can do: the bus operations change clients and the diagnostic log alone; the guard and
the two phases of a command, by cases; a finished host write. -/

namespace Sys2Proof.Machine

/-- A message to the clients of a list changes nothing but clients and diagnostics (R192, R193). -/
theorem fanOut_frame (send : Client → ClientReply) (ks : List Nat) (s : State) :
    (fanOut send ks s).1 =
      { s with clients := (fanOut send ks s).1.clients, diag := (fanOut send ks s).1.diag } := by
  induction ks generalizing s with
  | nil => rfl
  | cons k ks ih =>
    unfold fanOut
    split
    · exact ih s
    · next slot _ =>
      have h := ih ((s.putClient k slot (send slot.dev).client).emit (send slot.dev).diags)
      simp only [State.putClient, State.emit] at h ⊢
      exact h

/-- A read-back over the clients of a list changes nothing but clients and diagnostics (R194). -/
theorem readFirst_frame (ks : List Nat) (s : State) :
    (readFirst ks s).1 =
      { s with clients := (readFirst ks s).1.clients, diag := (readFirst ks s).1.diag } := by
  induction ks generalizing s with
  | nil => rfl
  | cons k ks ih =>
    unfold readFirst
    split
    · exact ih s
    · split
      · rfl
      · exact ih s

/-- A client a message does not go to is untouched (R145, R192, R193). -/
theorem fanOut_other (send : Client → ClientReply) (ks : List Nat) (s : State) (j : Nat) (hj : j ∉ ks) :
    (fanOut send ks s).1.clients[j]? = s.clients[j]? := by
  induction ks generalizing s with
  | nil => rfl
  | cons k ks ih =>
    simp only [List.mem_cons, not_or] at hj
    unfold fanOut
    split
    · exact ih s hj.2
    · rw [ih _ hj.2]
      simp [Ne.symm hj.1]

/-- A client a read-back does not ask is untouched (R194). -/
theorem readFirst_other (ks : List Nat) (s : State) (j : Nat) (hj : j ∉ ks) :
    (readFirst ks s).1.clients[j]? = s.clients[j]? := by
  induction ks generalizing s with
  | nil => rfl
  | cons k ks ih =>
    simp only [List.mem_cons, not_or] at hj
    unfold readFirst
    split
    · exact ih s hj.2
    · split
      · simp [Ne.symm hj.1]
      · exact ih s hj.2

variable (send : Client → ClientReply) (ks : List Nat) (f : TempClient → TempClient × List Diag) (b : Byte) (ch : Nat)
  (s : State)

@[simp] theorem fanOut_cfg : ((fanOut send ks s).1).cfg = s.cfg := by
  rw [fanOut_frame]
@[simp] theorem fanOut_status : ((fanOut send ks s).1).status = s.status := by
  rw [fanOut_frame]
@[simp] theorem fanOut_config : ((fanOut send ks s).1).config = s.config := by
  rw [fanOut_frame]
@[simp] theorem fanOut_ptr : ((fanOut send ks s).1).ptr = s.ptr := by
  rw [fanOut_frame]
@[simp] theorem fanOut_pending : ((fanOut send ks s).1).pending = s.pending := by
  rw [fanOut_frame]
@[simp] theorem fanOut_rdata : ((fanOut send ks s).1).rdata = s.rdata := by
  rw [fanOut_frame]
@[simp] theorem fanOut_cursor : ((fanOut send ks s).1).cursor = s.cursor := by
  rw [fanOut_frame]
@[simp] theorem fanOut_armed : ((fanOut send ks s).1).armed = s.armed := by
  rw [fanOut_frame]
@[simp] theorem fanOut_chan : ((fanOut send ks s).1).chan = s.chan := by
  rw [fanOut_frame]
@[simp] theorem fanOut_wiring : ((fanOut send ks s).1).wiring = s.wiring := by
  rw [fanOut_frame]
@[simp] theorem fanOut_buses : ((fanOut send ks s).1).buses = s.buses := by
  rw [fanOut_frame]
@[simp] theorem fanOut_hostAccessed : ((fanOut send ks s).1).hostAccessed = s.hostAccessed := by
  rw [fanOut_frame]
@[simp] theorem fanOut_draws : ((fanOut send ks s).1).draws = s.draws := by
  rw [fanOut_frame]
@[simp] theorem fanOut_responses : ((fanOut send ks s).1).responses = s.responses := by
  rw [fanOut_frame]
@[simp] theorem fanOut_input : ((fanOut send ks s).1).input = s.input := by
  rw [fanOut_frame]

@[simp] theorem readFirst_cfg : ((readFirst ks s).1).cfg = s.cfg := by
  rw [readFirst_frame]
@[simp] theorem readFirst_status : ((readFirst ks s).1).status = s.status := by
  rw [readFirst_frame]
@[simp] theorem readFirst_config : ((readFirst ks s).1).config = s.config := by
  rw [readFirst_frame]
@[simp] theorem readFirst_ptr : ((readFirst ks s).1).ptr = s.ptr := by
  rw [readFirst_frame]
@[simp] theorem readFirst_pending : ((readFirst ks s).1).pending = s.pending := by
  rw [readFirst_frame]
@[simp] theorem readFirst_rdata : ((readFirst ks s).1).rdata = s.rdata := by
  rw [readFirst_frame]
@[simp] theorem readFirst_cursor : ((readFirst ks s).1).cursor = s.cursor := by
  rw [readFirst_frame]
@[simp] theorem readFirst_armed : ((readFirst ks s).1).armed = s.armed := by
  rw [readFirst_frame]
@[simp] theorem readFirst_chan : ((readFirst ks s).1).chan = s.chan := by
  rw [readFirst_frame]
@[simp] theorem readFirst_wiring : ((readFirst ks s).1).wiring = s.wiring := by
  rw [readFirst_frame]
@[simp] theorem readFirst_buses : ((readFirst ks s).1).buses = s.buses := by
  rw [readFirst_frame]
@[simp] theorem readFirst_hostAccessed : ((readFirst ks s).1).hostAccessed = s.hostAccessed := by
  rw [readFirst_frame]
@[simp] theorem readFirst_draws : ((readFirst ks s).1).draws = s.draws := by
  rw [readFirst_frame]
@[simp] theorem readFirst_responses : ((readFirst ks s).1).responses = s.responses := by
  rw [readFirst_frame]
@[simp] theorem readFirst_input : ((readFirst ks s).1).input = s.input := by
  rw [readFirst_frame]

@[simp] theorem sendSelected_cfg : (sendSelected b s).cfg = s.cfg := by
  simp [sendSelected, busWrite]
@[simp] theorem sendSelected_status : (sendSelected b s).status = s.status := by
  simp [sendSelected, busWrite]
@[simp] theorem sendSelected_config : (sendSelected b s).config = s.config := by
  simp [sendSelected, busWrite]
@[simp] theorem sendSelected_ptr : (sendSelected b s).ptr = s.ptr := by
  simp [sendSelected, busWrite]
@[simp] theorem sendSelected_pending : (sendSelected b s).pending = s.pending := by
  simp [sendSelected, busWrite]
@[simp] theorem sendSelected_rdata : (sendSelected b s).rdata = s.rdata := by
  simp [sendSelected, busWrite]
@[simp] theorem sendSelected_cursor : (sendSelected b s).cursor = s.cursor := by
  simp [sendSelected, busWrite]
@[simp] theorem sendSelected_armed : (sendSelected b s).armed = s.armed := by
  simp [sendSelected, busWrite]
@[simp] theorem sendSelected_chan : (sendSelected b s).chan = s.chan := by
  simp [sendSelected, busWrite]
@[simp] theorem sendSelected_wiring : (sendSelected b s).wiring = s.wiring := by
  simp [sendSelected, busWrite]
@[simp] theorem sendSelected_buses : (sendSelected b s).buses = s.buses := by
  simp [sendSelected, busWrite]
@[simp] theorem sendSelected_hostAccessed : (sendSelected b s).hostAccessed = s.hostAccessed := by
  simp [sendSelected, busWrite]
@[simp] theorem sendSelected_draws : (sendSelected b s).draws = s.draws := by
  simp [sendSelected, busWrite]
@[simp] theorem sendSelected_responses : (sendSelected b s).responses = s.responses := by
  simp [sendSelected, busWrite]
@[simp] theorem sendSelected_input : (sendSelected b s).input = s.input := by
  simp [sendSelected, busWrite]

@[simp] theorem clientsRun_cfg : (clientsRun b f s).cfg = s.cfg := by
  simp [clientsRun]
@[simp] theorem clientsRun_status : (clientsRun b f s).status = s.status := by
  simp [clientsRun]
@[simp] theorem clientsRun_config : (clientsRun b f s).config = s.config := by
  simp [clientsRun]
@[simp] theorem clientsRun_ptr : (clientsRun b f s).ptr = s.ptr := by
  simp [clientsRun]
@[simp] theorem clientsRun_pending : (clientsRun b f s).pending = s.pending := by
  simp [clientsRun]
@[simp] theorem clientsRun_rdata : (clientsRun b f s).rdata = s.rdata := by
  simp [clientsRun]
@[simp] theorem clientsRun_cursor : (clientsRun b f s).cursor = s.cursor := by
  simp [clientsRun]
@[simp] theorem clientsRun_armed : (clientsRun b f s).armed = s.armed := by
  simp [clientsRun]
@[simp] theorem clientsRun_chan : (clientsRun b f s).chan = s.chan := by
  simp [clientsRun]
@[simp] theorem clientsRun_wiring : (clientsRun b f s).wiring = s.wiring := by
  simp [clientsRun]
@[simp] theorem clientsRun_buses : (clientsRun b f s).buses = s.buses := by
  simp [clientsRun]
@[simp] theorem clientsRun_hostAccessed : (clientsRun b f s).hostAccessed = s.hostAccessed := by
  simp [clientsRun]
@[simp] theorem clientsRun_draws : (clientsRun b f s).draws = s.draws := by
  simp [clientsRun]
@[simp] theorem clientsRun_responses : (clientsRun b f s).responses = s.responses := by
  simp [clientsRun]
@[simp] theorem clientsRun_input : (clientsRun b f s).input = s.input := by
  simp [clientsRun]

@[simp] theorem busReset_cfg : ((busReset ch s).1).cfg = s.cfg := by
  simp [busReset]
@[simp] theorem busReset_status : ((busReset ch s).1).status = s.status := by
  simp [busReset]
@[simp] theorem busReset_config : ((busReset ch s).1).config = s.config := by
  simp [busReset]
@[simp] theorem busReset_ptr : ((busReset ch s).1).ptr = s.ptr := by
  simp [busReset]
@[simp] theorem busReset_pending : ((busReset ch s).1).pending = s.pending := by
  simp [busReset]
@[simp] theorem busReset_rdata : ((busReset ch s).1).rdata = s.rdata := by
  simp [busReset]
@[simp] theorem busReset_cursor : ((busReset ch s).1).cursor = s.cursor := by
  simp [busReset]
@[simp] theorem busReset_armed : ((busReset ch s).1).armed = s.armed := by
  simp [busReset]
@[simp] theorem busReset_chan : ((busReset ch s).1).chan = s.chan := by
  simp [busReset]
@[simp] theorem busReset_wiring : ((busReset ch s).1).wiring = s.wiring := by
  simp [busReset]
@[simp] theorem busReset_buses : ((busReset ch s).1).buses = s.buses := by
  simp [busReset]
@[simp] theorem busReset_hostAccessed : ((busReset ch s).1).hostAccessed = s.hostAccessed := by
  simp [busReset]
@[simp] theorem busReset_draws : ((busReset ch s).1).draws = s.draws := by
  simp [busReset]
@[simp] theorem busReset_responses : ((busReset ch s).1).responses = s.responses := by
  simp [busReset]
@[simp] theorem busReset_input : ((busReset ch s).1).input = s.input := by
  simp [busReset]

@[simp] theorem busRead_cfg : ((busRead ch s).1).cfg = s.cfg := by
  simp [busRead]
@[simp] theorem busRead_status : ((busRead ch s).1).status = s.status := by
  simp [busRead]
@[simp] theorem busRead_config : ((busRead ch s).1).config = s.config := by
  simp [busRead]
@[simp] theorem busRead_ptr : ((busRead ch s).1).ptr = s.ptr := by
  simp [busRead]
@[simp] theorem busRead_pending : ((busRead ch s).1).pending = s.pending := by
  simp [busRead]
@[simp] theorem busRead_rdata : ((busRead ch s).1).rdata = s.rdata := by
  simp [busRead]
@[simp] theorem busRead_cursor : ((busRead ch s).1).cursor = s.cursor := by
  simp [busRead]
@[simp] theorem busRead_armed : ((busRead ch s).1).armed = s.armed := by
  simp [busRead]
@[simp] theorem busRead_chan : ((busRead ch s).1).chan = s.chan := by
  simp [busRead]
@[simp] theorem busRead_wiring : ((busRead ch s).1).wiring = s.wiring := by
  simp [busRead]
@[simp] theorem busRead_buses : ((busRead ch s).1).buses = s.buses := by
  simp [busRead]
@[simp] theorem busRead_hostAccessed : ((busRead ch s).1).hostAccessed = s.hostAccessed := by
  simp [busRead]
@[simp] theorem busRead_draws : ((busRead ch s).1).draws = s.draws := by
  simp [busRead]
@[simp] theorem busRead_responses : ((busRead ch s).1).responses = s.responses := by
  simp [busRead]
@[simp] theorem busRead_input : ((busRead ch s).1).input = s.input := by
  simp [busRead]

@[simp] theorem latchByte_cfg : (latchByte s).cfg = s.cfg := by
  simp [latchByte]
@[simp] theorem latchByte_status : (latchByte s).status = s.status := by
  simp [latchByte]
@[simp] theorem latchByte_config : (latchByte s).config = s.config := by
  simp [latchByte]
@[simp] theorem latchByte_ptr : (latchByte s).ptr = s.ptr := by
  simp [latchByte]
@[simp] theorem latchByte_pending : (latchByte s).pending = s.pending := by
  simp [latchByte]
@[simp] theorem latchByte_cursor : (latchByte s).cursor = s.cursor := by
  simp [latchByte]
@[simp] theorem latchByte_armed : (latchByte s).armed = s.armed := by
  simp [latchByte]
@[simp] theorem latchByte_chan : (latchByte s).chan = s.chan := by
  simp [latchByte]
@[simp] theorem latchByte_wiring : (latchByte s).wiring = s.wiring := by
  simp [latchByte]
@[simp] theorem latchByte_buses : (latchByte s).buses = s.buses := by
  simp [latchByte]
@[simp] theorem latchByte_hostAccessed : (latchByte s).hostAccessed = s.hostAccessed := by
  simp [latchByte]
@[simp] theorem latchByte_draws : (latchByte s).draws = s.draws := by
  simp [latchByte]
@[simp] theorem latchByte_responses : (latchByte s).responses = s.responses := by
  simp [latchByte]
@[simp] theorem latchByte_input : (latchByte s).input = s.input := by
  simp [latchByte]

/-- The byte `latchByte` puts into RDATA (R137, R174). -/
@[simp] theorem latchByte_rdata : (latchByte s).rdata = (busRead s.chan s).2 := rfl

/-- A finished host write answers a next state: the state with its outcome recorded (R250). -/
theorem finish_eq (o : WriteOutcome) : finish o s = .next (s.respond (.outcome o)) := rfl

/-- A host write that ends with a non-Ok outcome answers a next state too (R260). -/
theorem raise_eq (o : WriteOutcome) (d : Diag) : raise o d s = .next ((s.emit [d]).respond (.outcome o)) := rfl

/-- The guard of a busy bridge (R131). -/
theorem guarded_busy (body : State → Result) (h : s.busy = true) : guarded body s = busyReject s := by
  simp [guarded, h]

/-- The guard of a bridge that is not busy. -/
theorem guarded_ready (body : State → Result) (h : s.busy = false) : guarded body s = body s := by
  simp [guarded, h]

/-- An F2 command in Idle is in its opcode phase (R132). -/
theorem twoPhase_opcode (p q : State → Result) (h : s.busy = false) (hp : s.pending = 0x00#8) : twoPhase p q s = p s := by
  simp [twoPhase, guarded, h, hp]

/-- An F2 command whose opcode is pending is in its payload phase (R133). -/
theorem twoPhase_payload (p q : State → Result) (h : s.busy = false) (hp : s.pending ≠ 0x00#8) : twoPhase p q s = q s := by
  rw [twoPhase, guarded_ready _ _ h, if_neg hp]

/-- Everything a two-phase command can be. -/
theorem twoPhase_cases (p q : State → Result) :
    (s.busy = true ∧ twoPhase p q s = busyReject s) ∨ (s.busy = false ∧ s.pending = 0x00#8 ∧ twoPhase p q s = p s) ∨
      (s.busy = false ∧ s.pending ≠ 0x00#8 ∧ twoPhase p q s = q s) := by
  rcases Bool.eq_false_or_eq_true s.busy with h | h
  · exact .inl ⟨h, guarded_busy s _ h⟩
  · by_cases hp : s.pending = 0x00#8
    · exact .inr (.inl ⟨h, hp, twoPhase_opcode s p q h hp⟩)
    · exact .inr (.inr ⟨h, hp, twoPhase_payload s p q h hp⟩)

/-- The bus of a channel does not depend on anything but the wiring and the buses. -/
theorem clientsAt_congr (s t : State) (ch : Nat) (hw : t.wiring = s.wiring) (hb : t.buses = s.buses) :
    t.clientsAt ch = s.clientsAt ch := by
  simp [State.clientsAt, State.busAt, hw, hb]

end Sys2Proof.Machine
end

