-- ==== Sys2Proof/Laws/Commands.lean ====
section
/-! SUPPORT. `exec` by cases: every instruction answers a next state, and a host command behind the busy guard is rejected
whole. -/

namespace Sys2Proof.Machine

/-- The guard of a command that answers a next state answers one. -/
theorem guarded_next {body : State → Result} (hb : ∀ s, ∃ t, body s = .next t) (s : State) :
    ∃ t, guarded body s = .next t := by
  rcases Bool.eq_false_or_eq_true s.busy with h | h
  · exact ⟨_, guarded_busy s body h⟩
  · rw [guarded_ready s body h]; exact hb s

/-- A two-phase command whose phases answer next states answers one. -/
theorem twoPhase_next {p q : State → Result} (hp : ∀ s, ∃ t, p s = .next t) (hq : ∀ s, ∃ t, q s = .next t) (s : State) :
    ∃ t, twoPhase p q s = .next t := by
  rcases twoPhase_cases s p q with ⟨_, h⟩ | ⟨_, _, h⟩ | ⟨_, _, h⟩
  · exact ⟨_, h⟩
  · rw [h]; exact hp s
  · rw [h]; exact hq s

/-- Channel-select in its opcode phase answers a next state (R143). -/
theorem channelSelectOpcode_next (s : State) : ∃ t, channelSelectOpcode s = .next t := by
  unfold channelSelectOpcode
  split
  · exact ⟨_, rfl⟩
  · exact ⟨_, rfl⟩

/-- Channel-select in its payload phase answers a next state (R143). -/
theorem channelSelectPayload_next (c : Byte) (s : State) : ∃ t, channelSelectPayload c s = .next t := by
  unfold channelSelectPayload
  split
  · exact ⟨_, rfl⟩
  · exact ⟨_, rfl⟩

/-- Every instruction answers a next state (R269: none is a fault, no step can stick). -/
theorem exec_next (i : Instr) (s : State) : ∃ t, exec i s = .next t := by
  cases i with
  | drst => exact guarded_next (fun _ => ⟨_, rfl⟩) s
  | owrs => exact guarded_next (fun _ => ⟨_, rfl⟩) s
  | owrb => exact guarded_next (fun _ => ⟨_, rfl⟩) s
  | srp p => exact twoPhase_next (fun _ => ⟨_, rfl⟩) (fun _ => ⟨_, rfl⟩) s
  | wcfg c => exact twoPhase_next (fun _ => ⟨_, rfl⟩) (fun _ => ⟨_, rfl⟩) s
  | owsb b => exact twoPhase_next (fun _ => ⟨_, rfl⟩) (fun _ => ⟨_, rfl⟩) s
  | owwb b => exact twoPhase_next (fun _ => ⟨_, rfl⟩) (fun _ => ⟨_, rfl⟩) s
  | owt d => exact twoPhase_next (fun _ => ⟨_, rfl⟩) (fun _ => ⟨_, rfl⟩) s
  | chsl c => exact twoPhase_next channelSelectOpcode_next (channelSelectPayload_next c) s
  | clientSearchRom => exact ⟨_, rfl⟩
  | clientReadRom => exact ⟨_, rfl⟩
  | clientMatchRom => exact ⟨_, rfl⟩
  | clientSkipRom => exact ⟨_, rfl⟩
  | clientAlarmSearch => exact ⟨_, rfl⟩
  | clientConvertT => exact ⟨_, rfl⟩
  | clientWriteScratchpad => exact ⟨_, rfl⟩
  | clientReadScratchpad => exact ⟨_, rfl⟩
  | clientCopyScratchpad => exact ⟨_, rfl⟩
  | clientRecallE2 => exact ⟨_, rfl⟩
  | clientReadPowerSupply => exact ⟨_, rfl⟩

/-- A client command runs on the clients of the bus of CHAN alone (R193, R200). -/
theorem exec_client (i : Instr) (s : State) (h : i.isHost = false) :
    ∃ b f, exec i s = .next (clientsRun b f s) := by
  cases i <;> first | exact ⟨_, _, rfl⟩ | cases h

end Sys2Proof.Machine
end

