-- ==== Sys2Proof/Laws/Crc8.lean ====
section
/-! SUPPORT. The CRC-8 unit byte by byte (R210). -/

namespace Sys2Proof.Machine

@[simp] theorem crcFrom_nil (c : Byte) : crcFrom c [] = c := rfl

@[simp] theorem crcFrom_cons (c x : Byte) (xs : List Byte) : crcFrom c (x :: xs) = crcFrom (crcByte c x) xs := rfl

/-- A sequence after another continues from the crc the first left. -/
theorem crcFrom_append (c : Byte) (xs ys : List Byte) : crcFrom c (xs ++ ys) = crcFrom (crcFrom c xs) ys := by
  simp [crcFrom]

/-- One more byte at the end of a sequence. -/
theorem crc8_concat (xs : List Byte) (x : Byte) : crc8 (xs ++ [x]) = crcByte (crc8 xs) x := by
  simp [crc8, crcFrom_append]

/-- The validator says that the code is the one computed (R212). -/
theorem crcValid_iff (data : List Byte) (c : Byte) : crcValid data c = true ↔ crc8 data = c := by
  simp [crcValid]

end Sys2Proof.Machine
end

