-- ==== Sys2Proof/Laws/Decode.lean ====
section
/-! SUPPORT. What the decoders can answer: one inversion lemma each. -/

namespace Sys2Proof

/-- A byte that decodes to a command is that command's opcode, and the payload is the byte given. -/
theorem decodeCommand_some {o : Opcodes} {op w : Byte} {i : Instr} (h : decodeCommand o op w = some i) :
    (op = o.drst ∧ i = .drst) ∨ (op = o.owrs ∧ i = .owrs) ∨ (op = o.owrb ∧ i = .owrb) ∨ (op = o.srp ∧ i = .srp w) ∨
      (op = o.wcfg ∧ i = .wcfg w) ∨ (op = o.owsb ∧ i = .owsb w) ∨ (op = o.owwb ∧ i = .owwb w) ∨
      (op = o.owt ∧ i = .owt w) ∨ (op = o.chsl ∧ i = .chsl w) := by
  unfold decodeCommand at h
  repeat' split at h
  all_goals cases h
  all_goals simp [*]

/-- A byte is no command exactly when it is none of the nine opcodes (R114). -/
theorem decodeCommand_none {o : Opcodes} {op w : Byte} : decodeCommand o op w = none ↔ op ∉ o.all := by
  unfold decodeCommand Opcodes.all
  repeat' split
  all_goals simp_all

/-- A pending opcode and a payload are one of the six F2 commands (R133). -/
theorem decodePayload_some {o : Opcodes} {op w : Byte} {i : Instr} (h : decodePayload o op w = some i) :
    i.hasPayload = true ∧
      ((op = o.srp ∧ i = .srp w) ∨ (op = o.wcfg ∧ i = .wcfg w) ∨ (op = o.owsb ∧ i = .owsb w) ∨
        (op = o.owwb ∧ i = .owwb w) ∨ (op = o.owt ∧ i = .owt w) ∨ (op = o.chsl ∧ i = .chsl w)) := by
  rw [decodePayload, Option.filter_eq_some_iff] at h
  refine ⟨h.2, ?_⟩
  rcases decodeCommand_some h.1 with ⟨_, hi⟩ | ⟨_, hi⟩ | ⟨_, hi⟩ | hi | hi | hi | hi | hi | hi
  · rw [hi] at h; exact absurd h.2 (by decide)
  · rw [hi] at h; exact absurd h.2 (by decide)
  · rw [hi] at h; exact absurd h.2 (by decide)
  · exact .inl hi
  · exact .inr (.inl hi)
  · exact .inr (.inr (.inl hi))
  · exact .inr (.inr (.inr (.inl hi)))
  · exact .inr (.inr (.inr (.inr (.inl hi))))
  · exact .inr (.inr (.inr (.inr (.inr hi))))

/-- Where the opcodes are pairwise distinct (R104), each opcode decodes to its own command (R101). -/
theorem decodeCommand_own {o : Opcodes} (h : o.all.Nodup) (w : Byte) :
    decodeCommand o o.drst w = some .drst ∧ decodeCommand o o.owrs w = some .owrs ∧
      decodeCommand o o.owrb w = some .owrb ∧ decodeCommand o o.srp w = some (.srp w) ∧
      decodeCommand o o.wcfg w = some (.wcfg w) ∧ decodeCommand o o.owsb w = some (.owsb w) ∧
      decodeCommand o o.owwb w = some (.owwb w) ∧ decodeCommand o o.owt w = some (.owt w) ∧
      decodeCommand o o.chsl w = some (.chsl w) := by
  have h' := List.nodup_reverse.2 h
  simp only [Opcodes.all, List.reverse_cons, List.reverse_nil, List.nil_append, List.cons_append, List.nodup_cons,
    List.mem_cons, List.not_mem_nil, or_false, not_or] at h'
  simp [decodeCommand, h']

/-- Where the client command bytes are pairwise distinct (R12), each decodes to its own command (R113). -/
theorem decodeClient_own {o : ClientOpcodes} (h : o.all.Nodup) :
    decodeClient o o.searchRom = some .clientSearchRom ∧ decodeClient o o.readRom = some .clientReadRom ∧
      decodeClient o o.matchRom = some .clientMatchRom ∧ decodeClient o o.skipRom = some .clientSkipRom ∧
      decodeClient o o.alarmSearch = some .clientAlarmSearch ∧ decodeClient o o.convertT = some .clientConvertT ∧
      decodeClient o o.writeScratchpad = some .clientWriteScratchpad ∧
      decodeClient o o.readScratchpad = some .clientReadScratchpad ∧
      decodeClient o o.copyScratchpad = some .clientCopyScratchpad ∧
      decodeClient o o.recallE2 = some .clientRecallE2 ∧
      decodeClient o o.readPowerSupply = some .clientReadPowerSupply := by
  have h' := List.nodup_reverse.2 h
  simp only [ClientOpcodes.all, List.nodup_cons, List.reverse_cons, List.reverse_nil, List.nil_append, List.cons_append,
    List.mem_cons, List.not_mem_nil, or_false, not_or] at h h'
  simp [decodeClient, h, h']

end Sys2Proof
end

