-- ==== Sys2Proof/Laws/Flags.lean ====
section
/-! SUPPORT. The STATUS bits (R36): writing one bit writes that bit alone. -/

namespace Sys2Proof.Machine

/-- Writing bit `i` writes bit `i` and keeps every other bit. -/
theorem getLsbD_writeBit (i j : Nat) (hi : i < 8) (v : Bool) (b : Byte) :
    (writeBit i v b).getLsbD j = if i = j then v else b.getLsbD j := by
  unfold writeBit
  by_cases hij : i = j
  · subst hij
    cases v <;> simp [hi]
  · cases v
    · by_cases hj : j < 8
      · simp only [Bool.false_eq_true, if_false, BitVec.getLsbD_and, BitVec.getLsbD_not, BitVec.getLsbD_shiftLeft,
          BitVec.getLsbD_one, hij]
        have : ¬(j - i = 0 ∧ ¬ j < i) := by omega
        by_cases h0 : j - i = 0
        · have : j < i := by omega
          simp [hj, this]
        · simp [hj, h0]
      · simp [hij, BitVec.getLsbD_of_ge _ _ (by omega : 8 ≤ j)]
    · simp only [if_true, BitVec.getLsbD_or, BitVec.getLsbD_shiftLeft, BitVec.getLsbD_one, hij, if_false]
      by_cases h0 : j - i = 0
      · have : j < i := by omega
        simp [this]
      · simp [h0]

/-- `STATUS.1WB <- v` (R93) writes 1WB alone. -/
theorem getLsbD_statusBusy (v : Bool) (b : Byte) (j : Nat) :
    (statusBusy v b).getLsbD j = if 0 = j then v else b.getLsbD j := getLsbD_writeBit 0 j (by omega) v b

/-- `STATUS.PPD <- v` (R136, R199) writes PPD alone. -/
theorem getLsbD_statusPpd (v : Bool) (b : Byte) (j : Nat) :
    (statusPpd v b).getLsbD j = if 1 = j then v else b.getLsbD j := getLsbD_writeBit 1 j (by omega) v b

/-- The triplet flags (R176) write TSB and DIR alone. -/
theorem getLsbD_statusTriplet (bit : Bool) (b : Byte) (j : Nat) :
    (statusTriplet bit b).getLsbD j = if 7 = j then bit else if 6 = j then !bit else b.getLsbD j := by
  unfold statusTriplet
  rw [getLsbD_writeBit 7 j (by omega), getLsbD_writeBit 6 j (by omega)]

/-- The PPD rule of 1WRS (R136) writes PPD alone. -/
theorem getLsbD_statusAfterReset (c : Config) (present : Bool) (b : Byte) (j : Nat) (hj : j ≠ 1) :
    (statusAfterReset c present b).getLsbD j = b.getLsbD j := by
  have h : 1 ≠ j := fun h => hj h.symm
  unfold statusAfterReset
  split
  · rw [getLsbD_statusPpd, if_neg h]
  · split
    · rw [getLsbD_statusPpd, if_neg h]
    · rfl

end Sys2Proof.Machine
end

