-- ==== Sys2Proof/Laws/PerInstr.lean ====
section
/-! SUPPORT. Statements made per instruction: the format of every instruction's encoding (R100, R102). -/

namespace Sys2Proof.Laws.Format

open Sys2Proof

/-- One byte for F1 and for a client command, two for F2 (R100, R102). -/
def Statement (i : Instr) : Prop := ∀ c : Config, (encode c i).length = if i.hasPayload then 2 else 1

theorem drst : Statement .drst := fun _ => rfl
theorem owrs : Statement .owrs := fun _ => rfl
theorem owrb : Statement .owrb := fun _ => rfl
theorem srp (p : Byte) : Statement (.srp p) := fun _ => rfl
theorem wcfg (c : Byte) : Statement (.wcfg c) := fun _ => rfl
theorem owsb (b : Byte) : Statement (.owsb b) := fun _ => rfl
theorem owwb (b : Byte) : Statement (.owwb b) := fun _ => rfl
theorem owt (d : Byte) : Statement (.owt d) := fun _ => rfl
theorem chsl (c : Byte) : Statement (.chsl c) := fun _ => rfl
theorem clientSearchRom : Statement .clientSearchRom := fun _ => rfl
theorem clientReadRom : Statement .clientReadRom := fun _ => rfl
theorem clientMatchRom : Statement .clientMatchRom := fun _ => rfl
theorem clientSkipRom : Statement .clientSkipRom := fun _ => rfl
theorem clientAlarmSearch : Statement .clientAlarmSearch := fun _ => rfl
theorem clientConvertT : Statement .clientConvertT := fun _ => rfl
theorem clientWriteScratchpad : Statement .clientWriteScratchpad := fun _ => rfl
theorem clientReadScratchpad : Statement .clientReadScratchpad := fun _ => rfl
theorem clientCopyScratchpad : Statement .clientCopyScratchpad := fun _ => rfl
theorem clientRecallE2 : Statement .clientRecallE2 := fun _ => rfl
theorem clientReadPowerSupply : Statement .clientReadPowerSupply := fun _ => rfl

end Sys2Proof.Laws.Format
end

