-- ==== Sys2Proof/Laws/Step.lean ====
section
/-! SUPPORT. The step by cases: the next event runs on the state without it; a host write behind the guard; what a host read
keeps. -/

namespace Sys2Proof.Machine

/-- With nothing to come the machine waits (log 2). -/
theorem step_nil (s : State) (h : s.input = []) : step s = .next s := by
  simp [step, runNext, h]

/-- The next event runs on the state without it. -/
theorem step_cons (s : State) (e : Event) (rest : List Event) (h : s.input = e :: rest) :
    step s = runEvent e { s with input := rest } := by
  simp [step, runNext, h]

/-- Every answer of a step: a wait, or the next event run. -/
theorem step_cases (s : State) :
    (s.input = [] ∧ step s = .next s) ∨
      ∃ e rest, s.input = e :: rest ∧ step s = runEvent e { s with input := rest } := by
  cases h : s.input with
  | nil => exact .inl ⟨rfl, step_nil s h⟩
  | cons e rest => exact .inr ⟨e, rest, rfl, step_cons s e rest h⟩

/-- Every answer of a host write (R130): rejected while busy, else the opcode phase in Idle and the payload phase not. -/
theorem hostWrite_cases (w : Byte) (s : State) :
    (s.busy = true ∧ hostWrite w s = busyReject s) ∨
      (s.busy = false ∧ s.pending = 0x00#8 ∧ hostWrite w s = opcodePhase w s) ∨
      (s.busy = false ∧ s.pending ≠ 0x00#8 ∧ hostWrite w s = payloadPhase w s) :=
  twoPhase_cases s (opcodePhase w) (payloadPhase w)

/-- A host write always answers a next state (R269). -/
theorem hostWrite_next (w : Byte) (s : State) : ∃ t, hostWrite w s = .next t := by
  rcases hostWrite_cases w s with ⟨_, h⟩ | ⟨_, _, h⟩ | ⟨_, _, h⟩
  · exact ⟨_, h⟩
  · rw [h]
    unfold opcodePhase
    split
    · exact exec_next _ s
    · exact ⟨_, rfl⟩
  · rw [h]
    unfold payloadPhase
    split
    · exact exec_next _ s
    · exact ⟨_, rfl⟩

/-- The refill of a triplet step (R174) by cases. -/
theorem tripletRefill_cases (s : State) :
    (s.cursor = 0#3 ∧ tripletRefill s = latchByte s) ∨ (s.cursor ≠ 0 ∧ tripletRefill s = s) := by
  by_cases h : s.cursor = 0#3
  · exact .inl ⟨h, by simp [tripletRefill, h]⟩
  · exact .inr ⟨h, if_neg h⟩

/-- A triplet step keeps the sequencing registers (R174 to R177). -/
theorem tripletStep_keeps (s : State) :
    (tripletStep s).pending = s.pending ∧ (tripletStep s).ptr = s.ptr ∧ (tripletStep s).config = s.config ∧
      (tripletStep s).chan = s.chan ∧ (tripletStep s).cfg = s.cfg := by
  rcases tripletRefill_cases s with ⟨_, h⟩ | ⟨_, h⟩ <;> simp [tripletStep, tripletExtract, h]

end Sys2Proof.Machine
end

