-- ==== Sys2Proof/Laws/WellFormed.lean ====
section
/-! SUPPORT. What a well-formed configuration gives (R12, R104, R282), fact by fact. -/

namespace Sys2Proof

/-- The constraints of R12 and R104 as propositions. -/
theorem Config.wellFormed_iff (c : Config) :
    c.wellFormed = true ↔ 0x00#8 ∉ c.opc.all ∧ c.opc.all.Nodup ∧ c.ptrc.all.Nodup ∧ c.clientOpc.all.Nodup ∧
      (1 ≤ c.numChannels ∧ c.numChannels ≤ 8) ∧
      (c.statusReset.getLsbD 0 = false ∧ c.statusReset.getLsbD 1 = true ∧ c.statusReset.getLsbD 2 = true) := by
  simp only [Config.wellFormed, Bool.and_eq_true, Opcodes.nonzero, Opcodes.distinct, PointerCodes.distinct,
    ClientOpcodes.distinct, Config.channelsInRange, Config.statusResetLegal, decide_eq_true_eq, Bool.not_eq_true',
    and_assoc]

/-- R104 (a), (b): the opcodes are non-zero and pairwise distinct. -/
theorem Config.wellFormed_opc {c : Config} (h : c.wellFormed = true) : 0x00#8 ∉ c.opc.all ∧ c.opc.all.Nodup :=
  ⟨((Config.wellFormed_iff c).1 h).1, ((Config.wellFormed_iff c).1 h).2.1⟩

/-- The F2 opcodes are not 0, so that a pending one is not Idle (R32, R104). -/
theorem Config.wellFormed_pending {c : Config} (h : c.wellFormed = true) :
    c.opc.srp ≠ 0x00#8 ∧ c.opc.wcfg ≠ 0x00#8 ∧ c.opc.owsb ≠ 0x00#8 ∧ c.opc.owwb ≠ 0x00#8 ∧ c.opc.owt ≠ 0x00#8 ∧
      c.opc.chsl ≠ 0x00#8 := by
  have h0 := (Config.wellFormed_opc h).1
  simp only [Opcodes.all, List.mem_cons, List.not_mem_nil, or_false, not_or] at h0
  obtain ⟨_, _, _, h1, h2, h3, h4, h5, h6⟩ := h0
  exact ⟨Ne.symm h1, Ne.symm h2, Ne.symm h3, Ne.symm h4, Ne.symm h5, Ne.symm h6⟩

/-- R12: the pointer codes are pairwise distinct. -/
theorem Config.wellFormed_ptrc {c : Config} (h : c.wellFormed = true) : c.ptrc.all.Nodup :=
  ((Config.wellFormed_iff c).1 h).2.2.1

/-- R12: the client command bytes are pairwise distinct. -/
theorem Config.wellFormed_clientOpc {c : Config} (h : c.wellFormed = true) : c.clientOpc.all.Nodup :=
  ((Config.wellFormed_iff c).1 h).2.2.2.1

/-- R12: 1 ≤ NUM_CHANNELS ≤ 8. -/
theorem Config.wellFormed_channels {c : Config} (h : c.wellFormed = true) : 1 ≤ c.numChannels ∧ c.numChannels ≤ 8 :=
  ((Config.wellFormed_iff c).1 h).2.2.2.2.1

/-- R12, R282: the settled bits of STATUS_RESET. -/
theorem Config.wellFormed_status {c : Config} (h : c.wellFormed = true) :
    c.statusReset.getLsbD 0 = false ∧ c.statusReset.getLsbD 1 = true ∧ c.statusReset.getLsbD 2 = true :=
  ((Config.wellFormed_iff c).1 h).2.2.2.2.2

end Sys2Proof
end

