-- ==== Sys2Proof/Tests/Slice0.lean ====
section
/-! SUPPORT. Own tests: the checks of WellFormed each refused once, a written-out word for every constructor, one step of
every instruction against the vectors of 95_test_vectors.md, and a witness for the premises of every statement. -/

namespace Sys2Proof.Tests
open Sys2Proof Sys2Proof.Machine

/-! ### Helpers -/

/-- The state a result gives, if it is a next state. -/
def after : Result → Option State
  | .next s => some s
  | .fault _ => none
  | .refused _ => none

/-- `s` with these clients, numbered from 0, on the bus of channel `ch`, in order. -/
def put (ch : Nat) (cs : List Client) (s : State) : State :=
  { s with clients := cs.map (fun c => { dev := c, bus := some ch }),
           buses := s.buses.set ch { clients := List.range cs.length, master := some .bridge } }

/-- `T(SER, t)` of 95_test_vectors.md. -/
def sensor (t : BitVec 32) : TempClient :=
  { TempClient.fresh with rom := #v[0x28, 0x01, 0x02, 0x03, 0x04, 0x05, 0x06, 0x9E], temp := t }

/-- `F[bytes]` of 95_test_vectors.md: RESET answered with 1, DATA with 0. -/
def feed (bytes : List Byte) : Client := .queued { resetAck := 1, dataAck := 0, queue := bytes }

/-- `S0` with an event to come. -/
def s0 (es : List Event) : State := { State.reset with input := es }

/-- `S0` with `F2` opcode `op` pending. -/
def awaiting (op : Byte) : State := { State.reset with pending := op }

/-- The scratchpad, cursor and ROM of the first client. -/
def firstTemp (s : State) : Option TempClient :=
  match s.clients[0]? with
  | some slot => match slot.dev with | .temp t => some t | .queued _ => none | .other _ => none
  | none => none

/-- The registers a vector writes out, in its order. -/
structure Registers where
  status  : Byte
  config  : Byte
  ptr     : Byte
  chan    : Nat
  pending : Byte
  rdata   : Byte
  cursor  : BitVec 3
  armed   : Bool
deriving DecidableEq, Repr

/-- A state as the vectors write it. -/
def registers (s : State) : Registers := ⟨s.status, s.config, s.ptr, s.chan, s.pending, s.rdata, s.cursor, s.armed⟩

/-! ### WellFormed refuses (R12, R104, R103) -/

theorem test_default_parameters_legal : Config.eightChannel.wellFormed = true ∧ Config.oneChannel.wellFormed = true := by decide
theorem test_opcode_zero_refused :
    ({ Config.eightChannel with opc := { Opcodes.default with owt := 0x00 } } : Config).wellFormed = false := by decide
theorem test_opcode_repeat_refused :
    ({ Config.eightChannel with opc := { Opcodes.default with owt := 0xF0 } } : Config).wellFormed = false := by decide
theorem test_pointer_repeat_refused :
    ({ Config.eightChannel with ptrc := { PointerCodes.default with config := 0xF0 } } : Config).wellFormed = false := by decide
theorem test_client_repeat_refused :
    ({ Config.eightChannel with clientOpc := { ClientOpcodes.default with recallE2 := 0xF0 } } : Config).wellFormed = false := by
  decide
theorem test_no_channel_refused : ({ Config.eightChannel with numChannels := 0 } : Config).wellFormed = false := by decide
theorem test_nine_channels_refused : ({ Config.eightChannel with numChannels := 9 } : Config).wellFormed = false := by decide
theorem test_status_reset_busy_refused : ({ Config.eightChannel with statusReset := 0x07 } : Config).wellFormed = false := by
  decide
theorem test_status_reset_ppd_refused : ({ Config.eightChannel with statusReset := 0x04 } : Config).wellFormed = false := by
  decide
theorem test_status_reset_sd_refused : ({ Config.eightChannel with statusReset := 0x02 } : Config).wellFormed = false := by
  decide
theorem test_chsl_on_one_channel_refused : (Instr.chsl 0x00).wellFormed .oneChannel = false := by decide

/-! ### Decode: a word for every constructor, its bits from R101, R113 and the payload's bits above them -/

theorem test_decode_drst : decodeTableWord 8 0b11110000 = some .drst := by decide
theorem test_decode_owrs : decodeTableWord 8 0b10110100 = some .owrs := by decide
theorem test_decode_owrb : decodeTableWord 8 0b10010110 = some .owrb := by decide
theorem test_decode_srp : decodeTableWord 16 0b11000011_11100001 = some (.srp 0xC3) := by decide
theorem test_decode_wcfg : decodeTableWord 16 0b01011010_11010010 = some (.wcfg 0x5A) := by decide
theorem test_decode_owsb : decodeTableWord 16 0b10000000_10000111 = some (.owsb 0x80) := by decide
theorem test_decode_owwb : decodeTableWord 16 0b10111110_10100101 = some (.owwb 0xBE) := by decide
theorem test_decode_owt : decodeTableWord 16 0b00000001_01111000 = some (.owt 0x01) := by decide
theorem test_decode_chsl : decodeTableWord 16 0b00010011_11000011 = some (.chsl 0x13) := by decide
theorem test_decode_client_search_rom : decodeClient .default 0b11110000 = some .clientSearchRom := by decide
theorem test_decode_client_read_rom : decodeTableWord 8 0b00110011 = some .clientReadRom := by decide
theorem test_decode_client_match_rom : decodeTableWord 8 0b01010101 = some .clientMatchRom := by decide
theorem test_decode_client_skip_rom : decodeTableWord 8 0b11001100 = some .clientSkipRom := by decide
theorem test_decode_client_alarm_search : decodeTableWord 8 0b11101100 = some .clientAlarmSearch := by decide
theorem test_decode_client_convert_t : decodeTableWord 8 0b01000100 = some .clientConvertT := by decide
theorem test_decode_client_write_scratchpad : decodeTableWord 8 0b01001110 = some .clientWriteScratchpad := by decide
theorem test_decode_client_read_scratchpad : decodeTableWord 8 0b10111110 = some .clientReadScratchpad := by decide
theorem test_decode_client_copy_scratchpad : decodeTableWord 8 0b01001000 = some .clientCopyScratchpad := by decide
theorem test_decode_client_recall_e2 : decodeTableWord 8 0b10111000 = some .clientRecallE2 := by decide
theorem test_decode_client_read_power_supply : decodeClient .default 0b10110100 = some .clientReadPowerSupply := by decide
/-- R114, R117: the reserved byte and a byte of neither table. -/
theorem test_decode_none : decodeTableWord 8 0x00 = none ∧ decodeTableWord 8 0xFF = none := by decide
/-- R103: a payload that has not come, and the 1-channel channel-select. -/
theorem test_decode_rejects :
    decode .eightChannel [0xE1] = .reject (.payloadMissing 0xE1) ∧ decode .eightChannel [] = .reject .noByte ∧
      decode .oneChannel [0xC3, 0x00] = .reject .channelSelectUnsupported ∧
      decode .eightChannel [0x55, 0x00] = .reject (.unrecognized 0x55) := by decide

/-! ### One step of every host command (95_test_vectors.md, Q1 to Q23) -/

/-- The start of Q1. -/
def q1 : State :=
  { State.reset with status := 0x86, config := 0xE1, ptr := 0xD2, chan := 3, rdata := 0x28, cursor := 3, armed := true }

/-- Q1. -/
theorem test_drst_keeps_aux :
    (after (exec .drst q1)).map registers = some ⟨0x06, 0x00, 0xF0, 0, 0x00, 0x28, 3, true⟩ := by decide
/-- Q2. -/
theorem test_drst_clears_aux :
    (after (exec .drst { q1 with cfg := { Config.eightChannel with drstClearsAux := true } })).map registers =
      some ⟨0x06, 0x00, 0xF0, 0, 0x00, 0x00, 0, false⟩ := by decide
/-- Q4. -/
theorem test_owrs_presence :
    (after (exec .owrs (put 0 [.temp (sensor 0)] { State.reset with status := 0x04 }))).map registers =
      some ⟨0x06, 0x00, 0xF0, 0, 0x00, 0x00, 0, false⟩ := by decide
/-- Q5 and Q6. -/
theorem test_owrs_absence :
    (after (exec .owrs { State.reset with cfg := { Config.eightChannel with ppdClearOnAbsent := true } })).map State.status =
      some 0x04 ∧ (after (exec .owrs State.reset)).map State.status = some 0x06 := by decide
/-- Q7. -/
theorem test_owrb_latches :
    (after (exec .owrb (put 0 [feed [0xFF]] { State.reset with ptr := 0xC3 }))).map
      (fun t => (registers t, t.clients.map ClientSlot.dev)) =
        some (⟨0x06, 0x00, 0xC3, 0, 0x00, 0xFF, 0, false⟩, [feed []]) := by decide
/-- Q8. -/
theorem test_owrb_empty_bus : (after (exec .owrb { State.reset with rdata := 0x77 })).map State.rdata = some 0x00 := by decide
/-- Q21, payload phase. -/
theorem test_srp_stores_raw :
    (after (exec (.srp 0x55) (awaiting 0xE1))).map registers = some ⟨0x06, 0x00, 0x55, 0, 0x00, 0x00, 0, false⟩ := by decide
/-- L1.2, step 1: the opcode alone leaves the pointer. -/
theorem test_srp_opcode :
    (after (step (s0 [.hostWrite 0xE1]))).map registers = some ⟨0x06, 0x00, 0xF0, 0, 0xE1, 0x00, 0, false⟩ := by decide
/-- Q10, payload phase. -/
theorem test_wcfg_stores_verbatim :
    (after (exec (.wcfg 0x5A) (awaiting 0xD2))).map registers = some ⟨0x06, 0x5A, 0xC3, 0, 0x00, 0x00, 0, false⟩ := by decide
/-- Q11, payload phase: F0 queues the ROM. -/
theorem test_owsb_payload_is_a_command :
    (after (exec (.owsb 0xF0) { put 0 [.temp (sensor 0)] (awaiting 0x87) with ptr := 0xE1 })).map
      (fun t => (registers t, (firstTemp t).map TempClient.q)) =
        some (⟨0x06, 0x00, 0xF0, 0, 0x00, 0x00, 0, false⟩, some { buf := .rom, pos := 0, rem := 8 }) := by decide
/-- Q12, payload phase: BE queues the scratchpad. -/
theorem test_owwb_payload_is_a_command :
    (after (exec (.owwb 0xBE) (put 0 [.temp (sensor 0)] (awaiting 0xA5)))).map (fun t => (firstTemp t).map TempClient.q) =
      some (some { buf := .sp, pos := 0, rem := 9 }) := by decide
/-- Q13, payload phase. -/
theorem test_owt_arms :
    (after (exec (.owt 0x80) (awaiting 0x78))).map registers = some ⟨0x06, 0x00, 0xF0, 0, 0x00, 0x00, 0, true⟩ := by decide
/-- Q15, payload phase: bits 7:4 are ignored. -/
theorem test_chsl_low_nibble :
    (after (exec (.chsl 0x13) (awaiting 0xC3))).map registers = some ⟨0x06, 0x00, 0xD2, 3, 0x00, 0x00, 0, false⟩ := by decide
/-- L1.4, step 5: channel 8 of 8. -/
theorem test_chsl_out_of_range :
    (after (exec (.chsl 0x08) { awaiting 0xC3 with chan := 3, ptr := 0xD2 })).map (fun t => (registers t, t.responses)) =
      some (⟨0x06, 0x00, 0xD2, 3, 0x00, 0x00, 0, false⟩, [.outcome .invalidChannel]) := by decide
/-- Q18. -/
theorem test_chsl_one_channel :
    (after (step { State.powerOn .oneChannel with input := [.hostWrite 0xC3] })).map (fun t => (t.pending, t.responses)) =
      some (0x00, [.outcome .unsupported]) := by decide
/-- Q19. -/
theorem test_unknown_opcode_ignored :
    (after (step (s0 [.hostWrite 0x00]))).map (fun t => (registers t, t.responses, t.diag)) =
      some (registers State.reset, [.outcome .ignored], [.unknownOpcode 0x00]) := by decide
/-- Q22. -/
theorem test_busy_discards_pending :
    (after (step { awaiting 0xD2 with status := 0x07, input := [.hostWrite 0x5A] })).map (fun t => (registers t, t.responses)) =
      some (⟨0x07, 0x00, 0xF0, 0, 0x00, 0x00, 0, false⟩, [.outcome .busy]) := by decide

/-! ### One step of every client command (K1 to K5) -/

/-- `T(SER, t)` on bus 0, from `S0`, the last six bytes of its ROM still queued. -/
def onBus (t : BitVec 32) : State := put 0 [.temp { sensor t with q := { buf := .rom, pos := 2, rem := 6 } }] State.reset

/-- K1. -/
theorem test_client_search_rom :
    (after (exec .clientSearchRom (onBus 0))).map (fun t => (firstTemp t).map TempClient.q) =
      some (some { buf := .rom, pos := 0, rem := 8 }) := by decide
/-- K2. -/
theorem test_client_read_power_supply :
    (after (exec .clientReadPowerSupply (onBus 0))).map (fun t => (busRead 0 t).2) = some 0xFF := by decide
/-- Q12. -/
theorem test_client_read_scratchpad :
    (after (exec .clientReadScratchpad (onBus 0))).map (fun t => (firstTemp t).map TempClient.q) =
      some (some { buf := .sp, pos := 0, rem := 9 }) := by decide
/-- K5, L1.5: 25.00 degrees. -/
theorem test_client_convert_t :
    (after (exec .clientConvertT (onBus 2500))).map (fun t => (firstTemp t).map TempClient.sp) =
      some (some #v[0x90, 0x01, 0x00, 0x00, 0x00, 0x00, 0x00, 0x00, 0xFB]) := by decide +kernel
/-- K5: -25.00 degrees. -/
theorem test_client_convert_t_negative :
    (after (exec .clientConvertT (onBus (BitVec.ofInt 32 (-2500))))).map (fun t => (firstTemp t).map TempClient.sp) =
      some (some #v[0x70, 0xFE, 0x00, 0x00, 0x00, 0x00, 0x00, 0x00, 0x8E]) := by decide +kernel
/-- K4, R226. -/
theorem test_client_skip_rom : after (exec .clientSkipRom (onBus 0)) = some (onBus 0) := by decide
/-- K4. -/
theorem test_client_read_rom :
    after (exec .clientReadRom (onBus 0)) = some { onBus 0 with diag := [.unknownClientCommand 0x33] } := by decide
/-- K4. -/
theorem test_client_match_rom :
    after (exec .clientMatchRom (onBus 0)) = some { onBus 0 with diag := [.unknownClientCommand 0x55] } := by decide
/-- K4. -/
theorem test_client_alarm_search :
    after (exec .clientAlarmSearch (onBus 0)) = some { onBus 0 with diag := [.unknownClientCommand 0xEC] } := by decide
/-- K4. -/
theorem test_client_write_scratchpad :
    after (exec .clientWriteScratchpad (onBus 0)) = some { onBus 0 with diag := [.unknownClientCommand 0x4E] } := by decide
/-- K4. -/
theorem test_client_copy_scratchpad :
    after (exec .clientCopyScratchpad (onBus 0)) = some { onBus 0 with diag := [.unknownClientCommand 0x48] } := by decide
/-- K4. -/
theorem test_client_recall_e2 :
    after (exec .clientRecallE2 (onBus 0)) = some { onBus 0 with diag := [.unknownClientCommand 0xB8] } := by decide

/-! ### Reads, triplet steps, buses, CRC-8, configuration (G, T, A, C, K) -/

/-- T1. -/
theorem test_triplet_one :
    (after (step (put 0 [feed [0x01]] { s0 [.hostRead] with armed := true }))).map (fun t => (registers t, t.responses)) =
      some (⟨0x86, 0x00, 0xF0, 0, 0x00, 0x01, 1, false⟩, [.byte 0x86]) := by decide
/-- T4. -/
theorem test_triplet_zero_keeps_bits :
    (after (step (put 0 [feed [0x00]] { s0 [.hostRead] with armed := true, status := 0xFF }))).map State.responses =
      some [.byte 0x7F] := by decide
/-- T5. -/
theorem test_triplet_last_bit :
    (after (step { s0 [.hostRead] with armed := true, cursor := 7, rdata := 0x80 })).map (fun t => (t.cursor, t.responses)) =
      some (0, [.byte 0x86]) := by decide
/-- G4. -/
theorem test_channel_codes :
    (List.range 8).map chanCode =
      [some 0xB8, some 0xB1, some 0xAA, some 0xA3, some 0x9C, some 0x95, some 0x8E, some 0x87] := by decide
/-- G6: no state change but the logs. -/
theorem test_unknown_pointer :
    (after (step { s0 [.hostRead] with ptr := 0x00 })).map (fun t => (registers t, t.diag)) =
      some (registers { State.reset with ptr := 0x00 }, [.unknownPointer 0x00]) := by decide
/-- A1: the third read. -/
theorem test_first_attached_answers :
    (busRead 0 (put 0 [feed [], feed [0x33]] State.reset)).2 = 0x33 ∧
      (busRead 0 (put 0 [feed [0x11], feed [0x22]] State.reset)).2 = 0x11 := by decide
/-- A4. -/
theorem test_upstream_reset :
    (after (step { s0 [.upstreamReset] with status := 0x04 })).map State.status = some 0x06 := by decide
/-- A client of another type: its calls are kept, its answers are free (R220; log 8). -/
theorem test_other_client_keeps_its_calls :
    (busWrite 0 0x33 (put 0 [.other { kind := 5, past := [] }] State.reset)).1.clients.map ClientSlot.dev =
      [.other { kind := 5, past := [.data 0x33] }] := by decide
/-- A6: upstream DATA goes to the bus of CHAN only. -/
theorem test_upstream_data_other_channel :
    (after (step { put 0 [.temp (sensor 0)] (s0 [.upstreamData 0xF0]) with chan := 2 })).map firstTemp =
      some (some (sensor 0)) := by decide
/-- CRC-8 vectors. -/
theorem test_crc_vectors :
    crc8 [0x01] = 0x5E ∧ crc8 [0x80] = 0x8C ∧ crc8 [0xFF] = 0x35 ∧ crc8 [0x28, 0x01, 0x02, 0x03, 0x04, 0x05, 0x06] = 0x9E := by
  decide +kernel
/-- The serial `SER` of 95_test_vectors.md. -/
def serText : List Char := ['2', '8', '0', '1', '0', '2', '0', '3', '0', '4', '0', '5', '0', '6', '9', 'E']
/-- D28. -/
theorem test_serial_order : parseSerial serText = some (sensor 0).rom := by decide
/-- K7: 14 digits are refused. -/
theorem test_serial_short_refused : parseSerial (serText.take 14) = none := by decide
/-- R191, R269. -/
theorem test_attach_elsewhere_refused :
    step { put 0 [.temp (sensor 0)] (s0 [.attach (some 1) 0]) with pending := 0 } = .refused .clientOnAnotherBus := by rfl
/-- Log 20: getMaster of a bus that does not exist, and R197: of one that does. -/
theorem test_get_master :
    (after (step (s0 [.getMaster 8]))).map State.responses = some [.master none] ∧
      (after (step (s0 [.getMaster 7]))).map State.responses = some [.master (some .bridge)] := by decide
/-- Log 3: a table word runs as the first step after reset. -/
theorem test_placed_word_runs :
    (after (step (State.reset.withFetchWord 16 0x5AD2))).map State.config = some 0x5A ∧
      (after (step (State.reset.withFetchWord 8 0xF0))).map State.responses = some [.outcome .ok] ∧
      (after (step (State.reset.withFetchWord 8 0x44))).map State.responses = some [] := by decide

/-! ### Witnesses: for every statement with premises, a state and operands that meet them, clause by clause -/

/-- A 1-channel bridge with a sensor on its bus, in the middle of a search, a payload pending. -/
def busyLife : State :=
  { State.powerOn .oneChannel with
    pending := 0x78, rdata := 0x28, cursor := 3, armed := true, hostAccessed := true, input := [.hostWrite 0x00],
    buses := [{ clients := [0], master := some .bridge }],
    clients := [{ dev := .temp { sensor 2500 with q := { buf := .rom, pos := 1, rem := 7 } }, bus := some 0 }] }

/-- `FORCEBUSY 1` from `S0` (L1.7), with these events to come. -/
def forced (es : List Event) : State := { s0 es with status := 0x07 }

theorem witness_DecodeOfEncodeIsTheInstruction :
    Config.eightChannel.wellFormed = true ∧ (Instr.chsl 0xFF).wellFormed .eightChannel = true ∧
      (Instr.chsl 0xFF).isHost = true ∧ Config.oneChannel.wellFormed = true ∧
      Instr.clientRecallE2.wellFormed .oneChannel = true ∧ Instr.clientRecallE2.isHost = false := by decide
theorem witness_EncodeOfDecodeIsTheBytes :
    decode .eightChannel [0xC3, 0xFF, 0x00] = .instr (.chsl 0xFF) [0x00] ∧
      decode .oneChannel [0x96] = .instr .owrb [] ∧ decodeClient .default 0xB8 = some .clientRecallE2 := by decide
/-- Q18. -/
theorem witness_ChannelSelectOnOneChannelTakesNoPayload :
    let s := { State.powerOn .oneChannel with input := [.hostWrite 0xC3, .hostRead] }
    s.cfg.wellFormed = true ∧ s.cfg.numChannels = 1 ∧ s.busy = false ∧ s.pending = 0x00 ∧
      s.input = .hostWrite s.cfg.opc.chsl :: [.hostRead] := by decide
theorem witness_StepRunsTheHostCommand :
    (let s := s0 [.hostWrite 0xF0]
     s.input = .hostWrite 0xF0 :: [] ∧ s.pending = 0x00 ∧ decodeOpcode s.cfg.opc 0xF0 = some .drst) ∧
      (let s := { awaiting 0xE1 with input := [.hostWrite 0xFF] }
       s.input = .hostWrite 0xFF :: [] ∧ s.pending ≠ 0x00 ∧
         decodePayload s.cfg.opc s.pending 0xFF = some (.srp 0xFF)) := by decide
theorem witness_StepRunsTheClientCommand :
    (s0 [.upstreamData 0x44]).input = .upstreamData 0x44 :: [] ∧
      decodeClient (s0 [.upstreamData 0x44]).cfg.clientOpc 0x44 = some .clientConvertT := by decide
theorem witness_BroadcastPayloadRunsTheClientCommand :
    decodeClient (onBus 0).cfg.clientOpc 0xF0 = some .clientSearchRom := by decide
theorem witness_PlacedInstructionRunsNext :
    let s := State.reset
    s.cfg.wellFormed = true ∧
      ((Instr.chsl 0xFF).wellFormed s.cfg = true ∧ (Instr.chsl 0xFF).hasPayload = true ∧
        encode s.cfg (.chsl 0xFF) = [tableByte 16 0xFFC3 0, tableByte 16 0xFFC3 1]) ∧
      (Instr.owrb.wellFormed s.cfg = true ∧ Instr.owrb.isHost = true ∧ Instr.owrb.hasPayload = false ∧
        encode s.cfg .owrb = [tableByte 8 0x96 0]) ∧
      (Instr.clientSkipRom.wellFormed s.cfg = true ∧ Instr.clientSkipRom.isHost = false ∧
        encode s.cfg .clientSkipRom = [tableByte 8 0xCC 0] ∧ tableByte 8 0xCC 0 ∉ s.cfg.opc.all) := by decide
/-- P6, line 4: in either phase. -/
theorem witness_BusyWriteIsRejected :
    (forced [.hostWrite 0xF0]).busy = true ∧ (forced [.hostWrite 0xF0]).input = .hostWrite 0xF0 :: [] ∧
      ({ forced [.hostWrite 0xF0] with pending := 0xE1 } : State).busy = true := by decide
theorem witness_BusyCommandHasNoEffect :
    (forced []).busy = true ∧ Instr.drst.isHost = true ∧ (Instr.chsl 0x0F).isHost = true := by decide
theorem witness_OpcodePhaseOfEveryByte :
    let s := s0 [.hostWrite 0xC3]
    let u := { State.powerOn .oneChannel with input := [.hostWrite 0xC3] }
    (s.cfg.wellFormed = true ∧ s.busy = false ∧ s.pending = 0x00 ∧ s.input = .hostWrite 0xC3 :: [] ∧
      0xC3 = s.cfg.opc.chsl ∧ s.cfg.numChannels ≠ 1) ∧
    (u.cfg.wellFormed = true ∧ u.busy = false ∧ u.pending = 0x00 ∧ u.input = .hostWrite 0xC3 :: [] ∧
      0xC3 = u.cfg.opc.chsl ∧ u.cfg.numChannels = 1) ∧
    (0xF0#8 = s.cfg.opc.drst ∧ 0xB4#8 = s.cfg.opc.owrs ∧ 0x96#8 = s.cfg.opc.owrb ∧
      0x78#8 ∈ [s.cfg.opc.srp, s.cfg.opc.wcfg, s.cfg.opc.owsb, s.cfg.opc.owwb, s.cfg.opc.owt] ∧
      0x00#8 ∉ s.cfg.opc.all ∧ 0xFF#8 ∉ s.cfg.opc.all) := by decide
theorem witness_PayloadWriteReturnsToIdle :
    let s := { awaiting 0xC3 with input := [.hostWrite 0x0F] }
    s.pending ≠ 0x00 ∧ s.input = .hostWrite 0x0F :: [] := by decide
theorem witness_EveryHostWriteReturnsOneOutcome : (s0 [.hostWrite 0x00]).input = .hostWrite 0x00 :: [] := by decide
/-- The start of Q1. -/
theorem witness_ResetBridgeResult : q1.busy = false ∧ q1.pending = 0x00 := by decide
theorem witness_OneWireResetResult :
    (onBus 0).busy = false ∧ (onBus 0).pending = 0x00 ∧
      (busReset (onBus 0).chan (onBus 0)).2 = true := by decide
theorem witness_ReadByteResult :
    (onBus 0).busy = false ∧ (onBus 0).pending = 0x00 ∧ (busRead (onBus 0).chan (onBus 0)).2 = 0x02 := by decide
theorem witness_SetReadPointerResult :
    let s := awaiting 0xE1
    s.cfg.wellFormed = true ∧ s.busy = false ∧ s.pending = s.cfg.opc.srp ∧ State.reset.busy = false ∧
      State.reset.pending = 0x00 := by decide
theorem witness_WriteConfigResult :
    let s := awaiting 0xD2
    s.cfg.wellFormed = true ∧ s.busy = false ∧ s.pending = s.cfg.opc.wcfg ∧ State.reset.busy = false ∧
      State.reset.pending = 0x00 := by decide
theorem witness_SingleBitAndWriteByteResult :
    let s := awaiting 0x87
    let u := awaiting 0xA5
    s.cfg.wellFormed = true ∧ s.busy = false ∧ s.pending = s.cfg.opc.owsb ∧ u.cfg.wellFormed = true ∧ u.busy = false ∧
      u.pending = u.cfg.opc.owwb ∧ State.reset.busy = false ∧ State.reset.pending = 0x00 := by decide
theorem witness_TripletCommandResult :
    let s := awaiting 0x78
    s.cfg.wellFormed = true ∧ s.busy = false ∧ s.pending = s.cfg.opc.owt ∧ State.reset.busy = false ∧
      State.reset.pending = 0x00 := by decide
/-- Channels 7 and 8 of 8, and 0 and 15. -/
theorem witness_ChannelSelectResult :
    let s := awaiting 0xC3
    let u := State.powerOn .oneChannel
    (s.cfg.wellFormed = true ∧ s.busy = false ∧ s.pending = s.cfg.opc.chsl ∧
      (0xF7#8).toNat % 16 < s.cfg.numChannels ∧ (0x10#8).toNat % 16 < s.cfg.numChannels ∧
      s.cfg.numChannels ≤ (0x08#8).toNat % 16 ∧ s.cfg.numChannels ≤ (0x0F#8).toNat % 16) ∧
    (u.cfg.wellFormed = true ∧ u.busy = false ∧ u.pending = 0x00 ∧ u.cfg.numChannels = 1) ∧
    (State.reset.busy = false ∧ State.reset.pending = 0x00 ∧ State.reset.cfg.numChannels ≠ 1) := by decide
theorem witness_InstructionStaysOnTheSelectedBus :
    (∃ t, exec .clientConvertT { onBus 2500 with chan := 2 } = .next t) ∧
      0 ∉ State.clientsAt { onBus 2500 with chan := 2 } 2 := ⟨⟨_, rfl⟩, by decide⟩
theorem witness_RegisterWriters :
    ∃ t, exec (.wcfg 0x5A) (awaiting 0xD2) = .next t ∧ t.config ≠ (awaiting 0xD2).config ∧
      t.ptr ≠ (awaiting 0xD2).ptr := ⟨_, rfl, by decide, by decide⟩
theorem witness_NoInstructionSetsBusy :
    ∃ t, exec .drst (forced []) = .next t ∧ t.busy = true ∧ (forced []).cfg.wellFormed = true :=
  ⟨_, rfl, by decide, by decide⟩
/-- G1, G2, G7. -/
theorem witness_StatusAndDataReadsReturnTheRegister :
    let s := forced [.hostRead]
    let u := { s0 [.hostRead] with ptr := 0xE1, rdata := 0x9E, armed := true }
    s.cfg.wellFormed = true ∧ s.input = .hostRead :: [] ∧ s.ptr = s.cfg.ptrc.status ∧ s.armed = false ∧
      u.cfg.wellFormed = true ∧ u.input = .hostRead :: [] ∧ u.ptr = u.cfg.ptrc.rdata := by decide
/-- G3, G4, channels 0 and 7. -/
theorem witness_ConfigAndChannelReadsReturnTheRegister :
    let s := { s0 [.hostRead] with ptr := 0xC3 }
    let u := { s0 [.hostRead] with ptr := 0xD2 }
    let v := { u with chan := 7 }
    s.cfg.wellFormed = true ∧ s.input = .hostRead :: [] ∧ s.ptr = s.cfg.ptrc.config ∧
      u.cfg.wellFormed = true ∧ u.input = .hostRead :: [] ∧ u.ptr = u.cfg.ptrc.channel ∧ u.chan < 8 ∧
      v.cfg.wellFormed = true ∧ v.input = .hostRead :: [] ∧ v.ptr = v.cfg.ptrc.channel ∧ v.chan < 8 := by decide
theorem witness_UnknownPointerReadIsADraw :
    let s := { s0 [.hostRead] with ptr := 0x00 }
    s.ptr ∉ s.cfg.ptrc.all ∧ s.input = .hostRead :: [] := by decide
/-- T1 (a refill) and T5 (none, the last bit). -/
theorem witness_ArmedStatusReadIsOneTripletStep :
    let s := put 0 [feed [0x01]] { s0 [.hostRead] with armed := true }
    let u := { s0 [.hostRead] with armed := true, cursor := 7, rdata := 0x80 }
    (s.cfg.wellFormed = true ∧ s.input = .hostRead :: [] ∧ s.ptr = s.cfg.ptrc.status ∧ s.armed = true ∧
      s.cursor = 0 ∧ (busRead s.chan { s with input := [], hostAccessed := true }).2 = 0x01 ∧
      0x86#8 = (s.status &&& 0x3F#8) ||| (if (0x01#8).getLsbD s.cursor.toNat then 0x80#8 else 0x40#8)) ∧
    (u.cfg.wellFormed = true ∧ u.input = .hostRead :: [] ∧ u.ptr = u.cfg.ptrc.status ∧ u.armed = true ∧
      u.cursor ≠ 0 ∧ u.rdata = 0x80 ∧
      0x86#8 = (u.status &&& 0x3F#8) ||| (if (0x80#8).getLsbD u.cursor.toNat then 0x80#8 else 0x40#8)) := by decide
/-- L1.3. -/
theorem witness_EightTripletStepsReadOneByte :
    let s := put 0 [feed [0xB4, 0x5A]] State.reset
    s.cursor = 0 ∧ 0xB4#8 = (busRead s.chan s).2 := by decide
theorem witness_HostReadKeepsTheSequencer :
    (s0 [.hostRead]).input = .hostRead :: [] ∧ (s0 [.hostRead]).armed = false := by decide
theorem witness_SelectedRegisterIsReadBack :
    let s := { State.reset with chan := 7, input := rdreg Config.eightChannel 0xD2 }
    let u := { State.reset with input := rdreg Config.eightChannel 0xC3, config := 0xE1 }
    (s.cfg.wellFormed = true ∧ s.busy = false ∧ s.pending = 0x00 ∧ s.armed = false ∧ s.chan < 8 ∧
      s.input = rdreg s.cfg 0xD2 ++ [] ∧ 0xD2 = s.cfg.ptrc.channel ∧ 0x87#8 = BitVec.ofNat 8 (0xB8 - 7 * s.chan)) ∧
    (u.cfg.wellFormed = true ∧ u.busy = false ∧ u.pending = 0x00 ∧ u.armed = false ∧ u.chan < 8 ∧
      u.input = rdreg u.cfg 0xC3 ++ [] ∧ 0xC3 = u.cfg.ptrc.config ∧ 0xE1 = u.config) ∧
    (0xF0 = u.cfg.ptrc.status ∧ 0xE1 = u.cfg.ptrc.rdata) := by decide
/-- L1.6: no client with data, and the second client the first with data. -/
theorem witness_FirstClientWithDataAnswers :
    let s := put 0 [feed []] State.reset
    let u := put 0 [feed [], feed [0x28, 0x01]] State.reset
    (∀ k ∈ s.clientsAt 0, s.clientHasData k = false) ∧
      (u.clientsAt 0 = [0] ++ 1 :: [] ∧ (∀ j ∈ [0], u.clientHasData j = false) ∧
        u.clients[1]? = some { dev := feed [0x28, 0x01], bus := some 0 } ∧ (feed [0x28, 0x01]).hasData = true) := by decide
theorem witness_ReferenceClientsTellPresence :
    let s := put 0 [.temp (sensor 0), .temp (sensor 1)] State.reset
    s.clientsAt 0 = [0, 1] ∧ (∀ k ∈ s.clientsAt 0, s.isTempClient k = true) ∧ s.clientsAt 1 = [] := by decide
theorem witness_UnwiredChannelActsAsAnEmptyBus :
    ({ State.reset with wiring := [none] } : State).wiring[0]? = some none ∧ State.reset.wiring[8]? = none := by decide
theorem witness_UpstreamResetSetsPresence : (s0 [.upstreamReset]).input = .upstreamReset :: [] := by decide
theorem witness_UpstreamDataIsRebroadcast : (s0 [.upstreamData 0xBE]).input = .upstreamData 0xBE :: [] := by decide
theorem witness_ForceBusyWritesTheBusyBit :
    (s0 [.forceBusy true]).input = .forceBusy true :: [] ∧ (forced [.forceBusy false]).input = .forceBusy false :: [] := by
  decide
theorem witness_ForcedBusySticks :
    (forced [.hostWrite 0xF0]).input = .hostWrite 0xF0 :: [] ∧ Event.hostWrite 0xF0 ≠ .forceBusy false ∧
      (forced [.hostWrite 0xF0]).busy = true ∧ ∃ t, step (forced [.hostWrite 0xF0]) = .next t :=
  ⟨by decide, by decide, by decide, _, rfl⟩
theorem witness_CrcIsLinear : ([0x28, 0x01] : List Byte).length = ([0xFF, 0x00] : List Byte).length := by decide
theorem witness_QueueCommandsReplaceTheReadQueue :
    let s := put 0 [.temp (sensor 0), feed []] State.reset
    0 ∈ s.clientsAt s.chan ∧ s.clients[0]? = some { dev := .temp (sensor 0), bus := some 0 } ∧
      0xF0 = s.cfg.clientOpc.searchRom ∧ 0xB4 = s.cfg.clientOpc.readPowerSupply ∧
      0xBE = s.cfg.clientOpc.readScratchpad ∧ s.isTempClient 1 = false ∧ 2 ∉ s.clientsAt s.chan := by decide
theorem witness_SkipRomChangesNothing : (onBus 0).isTempClient 0 = true := by decide
theorem witness_UnimplementedClientCommandsAreIgnored :
    Instr.clientRecallE2 ∈ [Instr.clientReadRom, .clientMatchRom, .clientAlarmSearch, .clientWriteScratchpad,
        .clientCopyScratchpad, .clientRecallE2] ∧ encode (onBus 0).cfg .clientRecallE2 = [0xB8] ∧
      List.replicate (((onBus 0).clientsAt (onBus 0).chan).filter (onBus 0).isTempClient).length
        (Diag.unknownClientCommand 0xB8) = [.unknownClientCommand 0xB8] ∧
      decodeClient State.reset.cfg.clientOpc 0x00 = none ∧ decodeClient State.reset.cfg.clientOpc 0xFF = none := by decide
/-- At the two ends of the signed range. -/
theorem witness_ConvertTemperatureResult :
    let s := put 0 [.temp (sensor (BitVec.intMin 32)), .temp (sensor (BitVec.intMax 32))] State.reset
    0 ∈ s.clientsAt s.chan ∧ s.clients[0]? = some { dev := .temp (sensor (BitVec.intMin 32)), bus := some 0 } ∧
      1 ∈ s.clientsAt s.chan ∧ s.clients[1]? = some { dev := .temp (sensor (BitVec.intMax 32)), bus := some 0 } := by decide
/-- One byte left, and none. -/
theorem witness_RecvReadsTheCursor :
    let t := { sensor 0 with q := { buf := .rom, pos := 7, rem := 1 } }
    0 < t.q.rem ∧ (t.bufferBytes t.q.buf)[t.q.pos]? = some 0x9E ∧ (sensor 0).q.rem = 0 := by decide
/-- K7 and D28. -/
theorem witness_SerialIsSixteenHexDigits :
    let s := put 0 [.temp (sensor 0)] (s0 [.setSerial 0 (serText.take 14)])
    parseSerial serText = some (sensor 0).rom ∧ s.input = .setSerial 0 (serText.take 14) :: [] ∧
      s.clients[0]? = some { dev := .temp (sensor 0), bus := some 0 } ∧ parseSerial (serText.take 14) = none := by decide
theorem witness_ConfigurationInputsWriteTheClient :
    let s := put 0 [.temp TempClient.fresh] (s0 [.setSerial 0 serText])
    let u := put 0 [.temp TempClient.fresh] (s0 [.setTemperature 0 2500])
    s.clients[0]? = some { dev := .temp TempClient.fresh, bus := some 0 } ∧ s.input = .setSerial 0 serText :: [] ∧
      parseSerial serText = some (sensor 0).rom ∧
      u.clients[0]? = some { dev := .temp TempClient.fresh, bus := some 0 } ∧ u.input = .setTemperature 0 2500 :: [] := by decide
/-- The last byte, with no byte and with eight bytes read before the conversion. -/
theorem witness_QueuedBytesComeBackInOrder : 0 + 8 < 9 ∧ 8 + 0 < 9 := by decide
theorem witness_NewReferenceClientIsFresh : (s0 [.newTempClient]).input = .newTempClient :: [] := by decide
theorem witness_AttachAppendsOrIsRefused :
    let free := { s0 [.attach (some 7) 0] with clients := [{ dev := .temp (sensor 0), bus := none }] }
    let null := { free with input := [.attach none 0] }
    let taken := put 0 [.temp (sensor 0)] (s0 [.attach (some 7) 0])
    let again := { taken with input := [.attach (some 0) 0] }
    (free.clients[0]? = some { dev := .temp (sensor 0), bus := none } ∧ free.input = .attach (some 7) 0 :: [] ∧
      free.buses[7]? = some { clients := [], master := some .bridge }) ∧
    (null.clients[0]? = some { dev := .temp (sensor 0), bus := none } ∧ null.input = .attach none 0 :: []) ∧
    (again.clients[0]? = some { dev := .temp (sensor 0), bus := some 0 } ∧ again.input = .attach (some 0) 0 :: [] ∧
      again.buses[0]? = some { clients := [0], master := some .bridge }) ∧
    (taken.clients[0]? = some { dev := .temp (sensor 0), bus := some 0 } ∧ taken.input = .attach (some 7) 0 :: [] ∧
      taken.buses[7]? = some { clients := [], master := some .bridge } ∧ 0 ≠ 7) := by decide
theorem witness_DetachRemovesOrAnswersFalse :
    let s := put 0 [.temp (sensor 0)] (s0 [.detach 0 0])
    let u := put 0 [.temp (sensor 0)] (s0 [.detach 1 0])
    (s.input = .detach 0 0 :: [] ∧ s.buses[0]? = some { clients := [0], master := some .bridge } ∧
      s.clients[0]? = some { dev := .temp (sensor 0), bus := some 0 } ∧ 0 ∈ [0]) ∧
    (u.input = .detach 1 0 :: [] ∧ u.buses[1]? = some { clients := [], master := some .bridge } ∧
      u.clients[0]? = some { dev := .temp (sensor 0), bus := some 0 } ∧ 0 ∉ ([] : List Nat)) := by decide
theorem witness_MasterIsSetOnlyAtBoot :
    let s := s0 [.setMaster 7 none]
    let u := { s with hostAccessed := true }
    let v := { u with input := [.setMaster 7 (some .bridge)] }
    s.buses[7]? = some { clients := [], master := some .bridge } ∧ s.input = .setMaster 7 none :: [] ∧
      s.hostAccessed = false ∧ u.input = .setMaster 7 none :: [] ∧ u.hostAccessed = true ∧
      (some Master.bridge : Option Master) ≠ none ∧ u.buses = s.buses ∧ v.buses = s.buses ∧
      v.input = .setMaster 7 (some .bridge) :: [] ∧ v.hostAccessed = true := by decide
/-- The last channel, to the last bus and to none. -/
theorem witness_WiringIsSetOnlyAtBoot :
    let s := s0 [.wire 7 (some 0)]
    let u := { s0 [.wire 7 none] with hostAccessed := true }
    let v := { u with input := [.wire 7 (some 7)] }
    (s.input = .wire 7 (some 0) :: [] ∧ 7 < s.wiring.length ∧ 0 < s.buses.length ∧ s.hostAccessed = false) ∧
      (u.input = .wire 7 none :: [] ∧ 7 < u.wiring.length ∧ u.hostAccessed = true ∧ u.wiring[7]? ≠ some none) ∧
      (v.input = .wire 7 (some 7) :: [] ∧ 7 < v.wiring.length ∧ 7 < v.buses.length ∧ v.hostAccessed = true ∧
        v.wiring[7]? = some (some 7)) := by decide
theorem witness_BootSettingsAreFixedAfterBoot :
    (∃ t, step busyLife = .next t) ∧ busyLife.hostAccessed = true := ⟨⟨_, rfl⟩, by decide⟩
theorem witness_PowerOnMeetsTheInvariant : Config.oneChannel.wellFormed = true ∧ Config.eightChannel.wellFormed = true := by
  decide

/-- The list of the one bus and the one back-reference of `busyLife` agree. -/
theorem busyLife_attachments : busyLife.attachmentsAgree := by
  intro b k
  rcases b with _ | b <;> rcases k with _ | k <;> simp [busyLife]

/-- The one read cursor of `busyLife` is inside its buffer. -/
theorem busyLife_cursors : busyLife.cursorsInside := by
  intro k slot t hk hd
  rcases k with _ | k
  · simp only [busyLife, List.getElem?_cons_zero, Option.some.injEq] at hk
    subst hk
    cases hd
    unfold TempClient.cursorInside
    decide
  · simp [busyLife] at hk

theorem witness_EveryStepKeepsTheInvariant : busyLife.Inv ∧ ∃ t, step busyLife = .next t :=
  ⟨{ cfgLegal := by decide, pendingLegal := by decide, chanLegal := by decide, wiringTotal := by decide,
     resetBits := fun _ _ _ => rfl, ppdSticky := fun _ => by decide, attachments := busyLife_attachments,
     cursors := busyLife_cursors }, _, rfl⟩

end Sys2Proof.Tests
end

section
/-! SUPPORT. The command sequencer: what a host write does in Idle and while busy (R130 to R132, R144), the
one-byte opcodes, the opcodes that await a payload, and channel-select by its branches (R143). -/

namespace Sys2Proof.Machine

/-! ### The host write step -/

/-- A step whose next event is a host write runs that write, with a host access marked (log 2, log 10). -/
theorem step_hostWrite {s : State} {w : Byte} {rest : List Event} (h : s.input = .hostWrite w :: rest) :
    step s = hostWrite w { s with input := rest, hostAccessed := true } :=
  step_cons s _ rest h

/-- While busy a host write is rejected in either phase (R131). -/
theorem hostWrite_busy {s : State} (w : Byte) (hb : s.busy = true) : hostWrite w s = busyReject s :=
  guarded_busy s _ hb

/-- In Idle a host write is in its opcode phase (R132). -/
theorem hostWrite_idle {s : State} (w : Byte) (hb : s.busy = false) (hp : s.pending = 0x00#8) :
    hostWrite w s = opcodePhase w s :=
  twoPhase_opcode s (opcodePhase w) (payloadPhase w) hb hp

/-- A byte that is an opcode runs its command (R132). -/
theorem opcodePhase_some {s : State} {w : Byte} {i : Instr} (h : decodeOpcode s.cfg.opc w = some i) :
    opcodePhase w s = exec i s := by
  simp [opcodePhase, h]

/-- A byte that is none of the nine opcodes is ignored (R144). -/
theorem opcodePhase_unknown {s : State} {w : Byte} (h : w ∉ s.cfg.opc.all) : opcodePhase w s = ignoreOpcode w s := by
  have hnone : decodeOpcode s.cfg.opc w = none := decodeCommand_none.2 h
  simp [opcodePhase, hnone]

/-! ### The commands in the opcode phase -/

/-- DRST behind an open busy guard (R135). -/
theorem execDrst_ready {s : State} (hb : s.busy = false) :
    execDrst s = finish .ok (clearAux
      { s with status := s.cfg.statusReset, config := s.cfg.configReset, ptr := s.cfg.ptrc.status, chan := 0 }) := by
  rw [execDrst, guarded_ready s _ hb]

/-- 1WRS behind an open busy guard (R136). -/
theorem execOwrs_ready {s : State} (hb : s.busy = false) :
    execOwrs s = finish .ok (afterBusReset (busReset s.chan s).2 (busReset s.chan s).1) := by
  rw [execOwrs, guarded_ready s _ hb]

/-- 1WRB behind an open busy guard (R137). -/
theorem execOwrb_ready {s : State} (hb : s.busy = false) : execOwrb s = finish .ok (latchByte s) := by
  rw [execOwrb, guarded_ready s _ hb]

/-- What `DRST_CLEARS_AUX` clears is no response (R135). -/
@[simp] theorem clearAux_responses (s : State) : (clearAux s).responses = s.responses := by
  unfold clearAux
  split
  · rfl
  · rfl

/-- Recording presence adds no response (R136). -/
@[simp] theorem afterBusReset_responses (present : Bool) (s : State) :
    (afterBusReset present s).responses = s.responses := rfl

/-- A one-byte host command of a bridge that is not busy returns Ok (R135 to R137). -/
theorem exec_oneByte_ok {i : Instr} {s : State} (hi : i = .drst ∨ i = .owrs ∨ i = .owrb) (hb : s.busy = false) :
    ∃ t, exec i s = .next t ∧ t.responses = s.responses ++ [.outcome .ok] := by
  rcases hi with rfl | rfl | rfl
  · exact ⟨_, execDrst_ready hb, by simp⟩
  · exact ⟨_, execOwrs_ready hb, by simp⟩
  · exact ⟨_, execOwrb_ready hb, by simp⟩

/-- SRP in Idle awaits its payload (R132, R138). -/
theorem execSrp_idle {s : State} (p : Byte) (hb : s.busy = false) (hp : s.pending = 0x00#8) :
    execSrp p s = awaitPayload s.cfg.opc.srp s := by
  rw [execSrp, twoPhase_opcode s _ _ hb hp]

/-- WCFG in Idle awaits its payload (R132, R139). -/
theorem execWcfg_idle {s : State} (c : Byte) (hb : s.busy = false) (hp : s.pending = 0x00#8) :
    execWcfg c s = awaitPayload s.cfg.opc.wcfg s := by
  rw [execWcfg, twoPhase_opcode s _ _ hb hp]

/-- 1WSB in Idle awaits its payload (R132, R140). -/
theorem execOwsb_idle {s : State} (b : Byte) (hb : s.busy = false) (hp : s.pending = 0x00#8) :
    execOwsb b s = awaitPayload s.cfg.opc.owsb s := by
  rw [execOwsb, twoPhase_opcode s _ _ hb hp]

/-- 1WWB in Idle awaits its payload (R132, R141). -/
theorem execOwwb_idle {s : State} (b : Byte) (hb : s.busy = false) (hp : s.pending = 0x00#8) :
    execOwwb b s = awaitPayload s.cfg.opc.owwb s := by
  rw [execOwwb, twoPhase_opcode s _ _ hb hp]

/-- 1WT in Idle awaits its payload (R132, R142). -/
theorem execOwt_idle {s : State} (d : Byte) (hb : s.busy = false) (hp : s.pending = 0x00#8) :
    execOwt d s = awaitPayload s.cfg.opc.owt s := by
  rw [execOwt, twoPhase_opcode s _ _ hb hp]

/-- The opcode of SRP, WCFG, 1WSB, 1WWB or 1WT in Idle becomes pending (R132). -/
theorem opcodePhase_awaits {s : State} {w : Byte} (hopc : s.cfg.opc.all.Nodup) (hb : s.busy = false)
    (hp : s.pending = 0x00#8)
    (hw : w ∈ [s.cfg.opc.srp, s.cfg.opc.wcfg, s.cfg.opc.owsb, s.cfg.opc.owwb, s.cfg.opc.owt]) :
    opcodePhase w s = awaitPayload w s := by
  obtain ⟨-, -, -, hsrp, hwcfg, howsb, howwb, howt, -⟩ := decodeCommand_own hopc payloadToCome
  simp only [List.mem_cons, List.not_mem_nil, or_false] at hw
  rcases hw with rfl | rfl | rfl | rfl | rfl
  · exact (opcodePhase_some hsrp).trans (execSrp_idle payloadToCome hb hp)
  · exact (opcodePhase_some hwcfg).trans (execWcfg_idle payloadToCome hb hp)
  · exact (opcodePhase_some howsb).trans (execOwsb_idle payloadToCome hb hp)
  · exact (opcodePhase_some howwb).trans (execOwwb_idle payloadToCome hb hp)
  · exact (opcodePhase_some howt).trans (execOwt_idle payloadToCome hb hp)

/-! ### Channel-select -/

/-- The channel index of a payload is its low nibble (R111). -/
theorem channelIndex_eq_mod (w : Byte) : channelIndex w = w.toNat % 16 :=
  Nat.and_two_pow_sub_one_eq_mod w.toNat 4

/-- On one channel the channel-select opcode is Unsupported (R143). -/
theorem channelSelectOpcode_one {s : State} (h : s.cfg.numChannels = 1) :
    channelSelectOpcode s = raise .unsupported .unsupported s :=
  if_pos h

/-- On more channels the channel-select opcode awaits its payload (R143). -/
theorem channelSelectOpcode_many {s : State} (h : s.cfg.numChannels ≠ 1) :
    channelSelectOpcode s = awaitPayload s.cfg.opc.chsl s :=
  if_neg h

/-- A channel index in range is selected (R143). -/
theorem channelSelectPayload_valid {s : State} {c : Byte} (h : c.toNat % 16 < s.cfg.numChannels) :
    channelSelectPayload c s = complete { s with chan := c.toNat % 16, ptr := s.cfg.ptrc.channel } := by
  rw [channelSelectPayload, channelIndex_eq_mod, if_neg (Nat.not_le.2 h)]

/-- A channel index out of range is an invalid channel (R143). -/
theorem channelSelectPayload_invalid {s : State} {c : Byte} (h : s.cfg.numChannels ≤ c.toNat % 16) :
    channelSelectPayload c s =
      raise .invalidChannel (.invalidChannel (c.toNat % 16)) { s with pending := 0x00#8 } := by
  rw [channelSelectPayload, channelIndex_eq_mod, if_pos h]

/-- CHSL in Idle is its opcode phase (R132, R143). -/
theorem exec_chsl_idle {s : State} (c : Byte) (hb : s.busy = false) (hp : s.pending = 0x00#8) :
    exec (.chsl c) s = channelSelectOpcode s :=
  twoPhase_opcode s _ _ hb hp

/-- CHSL under a pending opcode is its payload phase (R133, R143). -/
theorem exec_chsl_pending {s : State} (c : Byte) (hb : s.busy = false) (hp : s.pending ≠ 0x00#8) :
    exec (.chsl c) s = channelSelectPayload c s :=
  twoPhase_payload s _ _ hb hp

/-- The channel-select opcode written in Idle is CHSL's opcode phase (R132, R143). -/
theorem opcodePhase_chsl {s : State} (hopc : s.cfg.opc.all.Nodup) (hb : s.busy = false) (hp : s.pending = 0x00#8) :
    opcodePhase s.cfg.opc.chsl s = channelSelectOpcode s := by
  obtain ⟨-, -, -, -, -, -, -, -, hchsl⟩ := decodeCommand_own hopc payloadToCome
  exact (opcodePhase_some hchsl).trans (exec_chsl_idle payloadToCome hb hp)

/-! ### The obligations -/

/-- Settles O11: in Idle a host write is its opcode phase, and each clause is one branch of that phase. -/
theorem opcodePhaseOfEveryByte : Obligations.OpcodePhaseOfEveryByte := by
  intro s s' w rest hcfg hbusy hidle hinput hs'
  obtain ⟨-, hopc⟩ := Config.wellFormed_opc hcfg
  have hcfg' : s'.cfg = s.cfg := by rw [hs']
  have hresp' : s'.responses = s.responses := by rw [hs']
  have hdiag' : s'.diag = s.diag := by rw [hs']
  have hbusy' : s'.busy = false := by rw [hs']; exact hbusy
  have hidle' : s'.pending = 0x00#8 := by rw [hs']; exact hidle
  have hstep : step s = opcodePhase w s' := by
    rw [step_hostWrite hinput, ← hs', hostWrite_idle w hbusy' hidle']
  rw [hstep, ← hcfg', ← hresp', ← hdiag']
  rw [← hcfg'] at hopc
  refine ⟨fun i hi => ?_, fun hw => opcodePhase_awaits hopc hbusy' hidle' hw, ?_, ?_, opcodePhase_unknown⟩
  · have hdecode : decodeOpcode s'.cfg.opc w = some i := by
      obtain ⟨hdrst, howrs, howrb, -⟩ := decodeCommand_own hopc payloadToCome
      rcases hi with ⟨rfl, rfl⟩ | ⟨rfl, rfl⟩ | ⟨rfl, rfl⟩
      · exact hdrst
      · exact howrs
      · exact howrb
    obtain ⟨t, ht, hok⟩ := exec_oneByte_ok (hi.imp And.right (Or.imp And.right And.right)) hbusy'
    exact ⟨t, (opcodePhase_some hdecode).trans ht, ht, hok⟩
  · rintro rfl hone
    exact (opcodePhase_chsl hopc hbusy' hidle').trans (channelSelectOpcode_one hone)
  · rintro rfl hmany
    exact (opcodePhase_chsl hopc hbusy' hidle').trans (channelSelectOpcode_many hmany)

/-- Settles O9: the step is a host write, which the busy guard rejects before either phase. -/
theorem busyWriteIsRejected : Obligations.BusyWriteIsRejected := by
  intro s w rest hbusy hinput
  exact (step_hostWrite hinput).trans (hostWrite_busy w hbusy)

/-- Settles O21: each clause is one branch of CHSL's opcode or payload phase; a pending opcode is not Idle because a
legal opcode is not 0. -/
theorem channelSelectResult : Obligations.ChannelSelectResult := by
  intro s c hcfg hbusy
  obtain ⟨-, -, -, -, -, hchsl⟩ := Config.wellFormed_pending hcfg
  refine ⟨fun hidle hone => ?_, fun hidle hmany => ?_, fun hpend hvalid => ?_, fun hpend hinvalid => ?_⟩
  · exact (exec_chsl_idle c hbusy hidle).trans (channelSelectOpcode_one hone)
  · exact (exec_chsl_idle c hbusy hidle).trans (channelSelectOpcode_many hmany)
  · exact (exec_chsl_pending c hbusy (hpend ▸ hchsl)).trans (channelSelectPayload_valid hvalid)
  · exact (exec_chsl_pending c hbusy (hpend ▸ hchsl)).trans (channelSelectPayload_invalid hinvalid)

end Sys2Proof.Machine
end

section
/-! SUPPORT. The host read step: which register a pointer selects (R170), and the reads that answer a register as it
stands (R172, R179). -/

namespace Sys2Proof.Machine

/-- A step whose next event is a host read runs that read, with a host access marked (log 2, log 10). -/
theorem step_hostRead {s : State} {rest : List Event} (h : s.input = .hostRead :: rest) :
    step s = .next (hostRead { s with input := rest, hostAccessed := true }) :=
  step_cons s _ rest h

/-- The status code selects STATUS: it is compared first (R170). -/
theorem selectedRegister_status (p : PointerCodes) : selectedRegister p p.status = some .status :=
  if_pos rfl

/-- The read-data code selects RDATA where the pointer codes are distinct: the status code, compared first, is another
(R12, R170). -/
theorem selectedRegister_rdata {p : PointerCodes} (h : p.all.Nodup) : selectedRegister p p.rdata = some .rdata := by
  have hne : p.rdata ≠ p.status := fun he => (List.nodup_cons.1 h).1 (he ▸ List.mem_cons_self)
  rw [selectedRegister, if_neg hne, if_pos rfl]

/-- A status register read that is not armed performs no triplet step (R172). -/
theorem readStatus_unarmed {s : State} (h : s.armed = false) : readStatus s = s.returnByte s.status := by
  rw [readStatus, h, if_neg Bool.false_ne_true]

/-- A host read under the status code, not armed, returns STATUS, with no guard before it (R172, R182). -/
theorem hostRead_status_unarmed {s : State} (hptr : s.ptr = s.cfg.ptrc.status) (harmed : s.armed = false) :
    hostRead s = s.returnByte s.status := by
  rw [hostRead, hptr, selectedRegister_status]
  exact readStatus_unarmed harmed

/-- A host read under the read-data code returns RDATA, with no guard before it (R179, R182). -/
theorem hostRead_rdata {s : State} (hptrc : s.cfg.ptrc.all.Nodup) (h : s.ptr = s.cfg.ptrc.rdata) :
    hostRead s = s.returnByte s.rdata := by
  rw [hostRead, h, selectedRegister_rdata hptrc]

/-- Settles O25: the step is a host read, whose pointer selects STATUS or RDATA; the read answers that register, and
neither branch asks for 1WB. -/
theorem statusAndDataReadsReturnTheRegister : Obligations.StatusAndDataReadsReturnTheRegister := by
  intro s rest hcfg hinput
  refine ⟨fun hptr harmed => (step_hostRead hinput).trans (congrArg _ ?_),
    fun hptr => (step_hostRead hinput).trans (congrArg _ ?_)⟩
  · exact hostRead_status_unarmed hptr harmed
  · exact hostRead_rdata (Config.wellFormed_ptrc hcfg) hptr

end Sys2Proof.Machine
end

section
/-! SUPPORT. The bus: a message fanned out to the clients of a list, one place after the other (R192, R193); the
read-back arbiter, which passes the clients without data (R194); then the obligations about the bus. -/

namespace Sys2Proof.Machine

variable {send : Client → ClientReply} {s t u : State} {a b : Bool} {k : Nat} {ks : List Nat}

/-! ### A message to every client of a list -/

@[simp] theorem ClientSlot.afterSends_zero : ClientSlot.afterSends send 0 = id := rfl

@[simp] theorem ClientSlot.afterSends_one (slot : ClientSlot) :
    slot.afterSends send 1 = { slot with dev := (send slot.dev).client } := rfl

/-- `m` sends and then `n` more are `m + n` sends. -/
theorem ClientSlot.afterSends_afterSends (m n : Nat) (slot : ClientSlot) :
    (slot.afterSends send m).afterSends send n = slot.afterSends send (m + n) := by
  simp only [afterSends, Nat.add_comm m n, Function.iterate_add_apply]

/-- The sends at a place `k` and then those at the places of a list are the sends at the places of the longer list. -/
theorem ClientSlot.afterSends_count_cons (k j : Nat) (ks : List Nat) (slot : ClientSlot) :
    (slot.afterSends send ([k].count j)).afterSends send (ks.count j) = slot.afterSends send ((k :: ks).count j) := by
  rw [afterSends_afterSends, ← List.count_append, List.singleton_append]

/-- A message that leaves its own diagnostics as they are emits the same ones after any number of sends. -/
theorem ClientSlot.diags_afterSends (hdiag : ∀ c, (send (send c).client).diags = (send c).diags) (n : Nat)
    (slot : ClientSlot) : (send (slot.afterSends send n).dev).diags = (send slot.dev).diags := by
  induction n generalizing slot with
  | zero => rfl
  | succ n ih => exact (ih (slot.afterSends send 1)).trans (hdiag slot.dev)

@[simp] theorem fanOut_nil : fanOut send [] s = (s, false) := rfl

/-- A place of the list that names no client is passed. -/
theorem fanOut_cons_none (hk : s.clients[k]? = none) : fanOut send (k :: ks) s = fanOut send ks s := by
  simp only [fanOut, hk]

/-- A place of the list that names a client: it receives the message, and then the rest of the list does. -/
theorem fanOut_cons_some {slot : ClientSlot} (hk : s.clients[k]? = some slot) :
    fanOut send (k :: ks) s =
      let after := fanOut send ks ((s.putClient k slot (send slot.dev).client).emit (send slot.dev).diags)
      (after.1, decide ((send slot.dev).ret ≠ 0) || after.2) := by
  simp only [fanOut, hk]

/-- The message goes to the first place, then to the rest, whatever the first answered (R192). -/
theorem fanOut_cons (send : Client → ClientReply) (k : Nat) (ks : List Nat) (s : State) :
    fanOut send (k :: ks) s =
      ((fanOut send ks (fanOut send [k] s).1).1,
        (fanOut send [k] s).2 || (fanOut send ks (fanOut send [k] s).1).2) := by
  cases hk : s.clients[k]? with
  | none => simp [fanOut_cons_none hk]
  | some slot => simp [fanOut_cons_some hk]

/-- A message to one place. -/
theorem fanOut_singleton (send : Client → ClientReply) (k : Nat) (s : State) :
    FanOut send [k] s (fanOut send [k] s).1 (fanOut send [k] s).2 := by
  cases hk : s.clients[k]? with
  | none =>
    rw [fanOut_cons_none hk]
    refine ⟨fun j => ?_, by simp [List.getElem?_singleton, hk], by simp [hk], rfl⟩
    by_cases hj : j = k
    · simp [hj, hk]
    · simp [Ne.symm hj]
  | some slot =>
    rw [fanOut_cons_some hk]
    refine ⟨fun j => ?_, by simp [List.getElem?_singleton, hk], by simp [hk], rfl⟩
    by_cases hj : j = k
    · simp [hj, hk, List.getElem?_set_self']
    · simp [Ne.symm hj]

/-- A message to one place and then to the places of a list is one to the longer list. -/
theorem FanOut.cons (hdiag : ∀ c, (send (send c).client).diags = (send c).diags) (hhead : FanOut send [k] s t a)
    (htail : FanOut send ks t u b) : FanOut send (k :: ks) s u (a || b) where
  clients j := by
    rw [htail.clients, hhead.clients, Option.map_map]
    exact congrArg (Option.map · _) (funext (ClientSlot.afterSends_count_cons k j ks))
  answer := by
    rw [Bool.or_eq_true, hhead.answer, htail.answer]
    constructor
    · rintro (⟨i, j, slot, hi, hj, hret⟩ | ⟨i, j, slot, hi, hj, hret⟩)
      · obtain ⟨rfl, rfl⟩ : i = 0 ∧ k = j := by simpa [List.getElem?_singleton] using hi
        exact ⟨0, k, slot, rfl, hj, hret⟩
      · rw [hhead.clients] at hj
        obtain ⟨slot', hj', rfl⟩ := Option.map_eq_some_iff.1 hj
        rw [ClientSlot.afterSends_count_cons] at hret
        exact ⟨i + 1, j, slot', hi, hj', hret⟩
    · rintro ⟨i, j, slot, hi, hj, hret⟩
      cases i with
      | zero =>
        obtain rfl : k = j := Option.some.inj hi
        exact .inl ⟨0, k, slot, rfl, hj, hret⟩
      | succ i =>
        refine .inr ⟨i, j, slot.afterSends send ([k].count j), hi, by rw [hhead.clients, hj]; rfl, ?_⟩
        rwa [ClientSlot.afterSends_count_cons]
  diags := by
    have hsame : ∀ j : Nat, (t.clients[j]?).map (fun slot : ClientSlot => (send slot.dev).diags) =
        (s.clients[j]?).map (fun slot : ClientSlot => (send slot.dev).diags) := by
      intro j
      rw [hhead.clients, Option.map_map]
      exact congrArg (Option.map · _) (funext (ClientSlot.diags_afterSends hdiag _))
    simp only [htail.diags, hhead.diags, hsame, List.append_assoc, ← List.flatMap_append, List.singleton_append]
  others := htail.others.trans (by rw [hhead.others])

/-- What `FanOut` says of a message holds of `fanOut`, for a message that leaves its own diagnostics as they are. -/
theorem fanOut_reaches (hdiag : ∀ c, (send (send c).client).diags = (send c).diags) (ks : List Nat) (s : State) :
    FanOut send ks s (fanOut send ks s).1 (fanOut send ks s).2 := by
  induction ks generalizing s with
  | nil => exact ⟨fun j => by simp, by simp, by simp, rfl⟩
  | cons k ks ih =>
    rw [fanOut_cons]
    exact (fanOut_singleton send k s).cons hdiag (ih _)

/-- No client emits a diagnostic at a RESET (R223). -/
theorem Client.sendReset_diags (c : Client) : c.sendReset.diags = [] := by
  cases c <;> rfl

/-- What the reference client emits at a DATA byte does not depend on the client (R224, R228). -/
theorem TempClient.data_diags (o : ClientOpcodes) (w : Byte) (t t' : TempClient) :
    (t.data o w).2 = (t'.data o w).2 := by
  unfold TempClient.data
  split_ifs <;> rfl

/-- A client that gets a DATA byte again emits what it emitted the first time (R228). -/
theorem Client.sendData_diags_again (o : ClientOpcodes) (w : Byte) (c : Client) :
    ((c.sendData o w).client.sendData o w).diags = (c.sendData o w).diags := by
  cases c with
  | temp t => exact TempClient.data_diags o w _ t
  | queued q => rfl
  | other o => rfl

/-- A message reads of a state its clients and its diagnostics alone. -/
theorem fanOut_congr (send : Client → ClientReply) (ks : List Nat) (hclients : t.clients = s.clients)
    (hdiag : t.diag = s.diag) :
    (fanOut send ks t).1.clients = (fanOut send ks s).1.clients ∧
      (fanOut send ks t).1.diag = (fanOut send ks s).1.diag ∧ (fanOut send ks t).2 = (fanOut send ks s).2 := by
  induction ks generalizing s t with
  | nil => exact ⟨hclients, hdiag, rfl⟩
  | cons k ks ih =>
    cases hk : s.clients[k]? with
    | none =>
      rw [fanOut_cons_none hk, fanOut_cons_none (hclients ▸ hk)]
      exact ih hclients hdiag
    | some slot =>
      rw [fanOut_cons_some hk, fanOut_cons_some (hclients ▸ hk)]
      obtain ⟨hc, hd, ha⟩ := ih (s := (s.putClient k slot (send slot.dev).client).emit (send slot.dev).diags)
        (t := (t.putClient k slot (send slot.dev).client).emit (send slot.dev).diags)
        (by simp [hclients]) (by simp [hdiag])
      exact ⟨hc, hd, congrArg (decide ((send slot.dev).ret ≠ 0) || ·) ha⟩

/-! ### The read-back arbiter -/

/-- A client with data that is asked for its next byte emits no diagnostic (R233). -/
theorem Client.recv_diags_of_hasData {c : Client} (h : c.hasData = true) : c.recv.2.2 = [] := by
  cases c with
  | temp t => simp [Client.recv, TempClient.recv, of_decide_eq_true h]
  | queued q =>
    cases hq : q.queue with
    | nil => simp [Client.hasData, hq] at h
    | cons w rest => simp [Client.recv, QueueClient.recv, hq]
  | other o => rfl

/-- A client without data is passed (R194). -/
theorem readFirst_cons_silent (h : s.clientHasData k = false) : readFirst (k :: ks) s = readFirst ks s := by
  cases hk : s.clients[k]? with
  | none => simp only [readFirst, hk]
  | some slot =>
    have hdata : slot.dev.hasData = false := by simpa only [State.clientHasData, hk] using h
    simp [readFirst, hk, hdata]

/-- The clients without data at the head of the list are passed (R194). -/
theorem readFirst_append_silent {before : List Nat} (h : ∀ j ∈ before, s.clientHasData j = false) (ks : List Nat) :
    readFirst (before ++ ks) s = readFirst ks s := by
  induction before with
  | nil => rfl
  | cons j js ih =>
    obtain ⟨hj, hjs⟩ := List.forall_mem_cons.1 h
    exact (readFirst_cons_silent hj).trans (ih hjs)

/-- A client with data answers, and its cursor alone advances (R194). -/
theorem readFirst_cons_answers {slot : ClientSlot} (hk : s.clients[k]? = some slot) (hdata : slot.dev.hasData = true) :
    readFirst (k :: ks) s =
      ({ s with clients := s.clients.set k { slot with dev := slot.dev.recv.2.1 } }, slot.dev.recv.1) := by
  simp only [readFirst, hk, hdata, if_true, Client.recv_diags_of_hasData hdata, State.emit_nil]
  rfl

/-! ### An upstream RESET -/

/-- Setting PPD sets bit 1 (R36, R199). -/
theorem statusPpd_true (st : Byte) : statusPpd true st = st ||| 0x02#8 := rfl

/-! ### The obligations -/

/-- Settles O32: no client emits a diagnostic at a RESET, so the rule of `fanOut` applies. -/
theorem busResetReachesEveryClient : Obligations.BusResetReachesEveryClient := by
  intro s ch
  exact fanOut_reaches (fun c => by rw [Client.sendReset_diags, Client.sendReset_diags]) (s.clientsAt ch) s

/-- Settles O33: a client emits the same diagnostics each time it gets the byte, so the rule of `fanOut` applies. -/
theorem busWriteReachesEveryClient : Obligations.BusWriteReachesEveryClient := by
  intro s ch w
  exact fanOut_reaches (Client.sendData_diags_again s.cfg.clientOpc w) (s.clientsAt ch) s

/-- Settles O35: the clients before the first with data are passed; with none, the whole list is. -/
theorem firstClientWithDataAnswers : Obligations.FirstClientWithDataAnswers := by
  intro s ch
  refine ⟨fun hsilent => ?_, fun before after k slot hlist hbefore hk hdata => ?_⟩
  · have h := readFirst_append_silent hsilent []
    rwa [List.append_nil] at h
  · rw [busRead, hlist, readFirst_append_silent hbefore, readFirst_cons_answers hk hdata]

/-- Settles O37: the step is the upstream RESET, which writes bit 1 of STATUS. -/
theorem upstreamResetSetsPresence : Obligations.UpstreamResetSetsPresence := by
  intro s rest hinput
  rw [step_cons s _ rest hinput, ← statusPpd_true]
  rfl

/-- Settles O38: the step sends the byte to the bus of CHAN from the state without the event; the message changes
clients and diagnostics alone, and does not read the events still to come. -/
theorem upstreamDataIsRebroadcast : Obligations.UpstreamDataIsRebroadcast := by
  intro s w rest hinput
  obtain ⟨hclients, hdiag, -⟩ := fanOut_congr (s := s) (t := { s with input := rest })
    (Client.sendData s.cfg.clientOpc w) (s.clientsAt s.chan) rfl rfl
  calc step s = .next (fanOut (Client.sendData s.cfg.clientOpc w) (s.clientsAt s.chan) { s with input := rest }).1 :=
        step_cons s _ rest hinput
    _ = _ := by
        rw [fanOut_frame, hclients, hdiag]
        rfl

end Sys2Proof.Machine
end

section
/-! SUPPORT. The client interface: a client command received by every client of the bus of CHAN (R193, R224); the bytes
the reference client ignores (R228); `recv` by its two cases (R233, R235); then the obligations about the clients. -/

namespace Sys2Proof.Machine

variable {s : State} {slot : ClientSlot} {t : TempClient} {b : Byte} {k : Nat}

/-! ### Reference clients and the others -/

/-- The reference clients are those whose tag says so (R220, R222). -/
theorem State.isTempClient_iff :
    s.isTempClient k = true ↔ ∃ t bus, s.clients[k]? = some { dev := .temp t, bus := bus } := by
  unfold isTempClient
  cases s.clients[k]? with
  | none => simp
  | some slot =>
    obtain ⟨dev, bus⟩ := slot
    cases dev <;> simp

/-- A client that is no reference client receives a byte alike, whatever the reference clients do at it (R220). -/
theorem ClientSlot.afterSends_onData_congr (f f' : TempClient → TempClient × List Diag)
    (h : ∀ t, slot.dev ≠ .temp t) (n : Nat) :
    slot.afterSends (Client.onData b f) n = slot.afterSends (Client.onData b f') n := by
  induction n generalizing slot with
  | zero => rfl
  | succ n ih =>
    obtain ⟨dev, bus⟩ := slot
    cases dev with
    | temp t => exact absurd rfl (h t)
    | queued q => exact ih (slot := ⟨.queued q, bus⟩) (fun _ => nofun)
    | other o => exact ih (slot := ⟨.other { o with past := o.past ++ [.data b] }, bus⟩) (fun _ => nofun)

/-! ### A command run by the clients of the bus: a reference client becomes `g` of itself and emits `ds` -/

section Run

variable (b : Byte) (g : TempClient → TempClient) (ds : List Diag)

/-- A client that receives the command again emits what it emitted the first time. -/
theorem Client.onData_diags_again (c : Client) :
    ((c.onData b (fun t => (g t, ds))).client.onData b (fun t => (g t, ds))).diags =
      (c.onData b (fun t => (g t, ds))).diags := by
  cases c <;> rfl

/-- The command reaches each place of the bus of CHAN, as BusWrite reaches them (R193). -/
theorem clientsRun_reaches (s : State) :
    FanOut (Client.onData b (fun t => (g t, ds))) (s.clientsAt s.chan) s (clientsRun b (fun t => (g t, ds)) s)
      (fanOut (Client.onData b (fun t => (g t, ds))) (s.clientsAt s.chan) s).2 :=
  fanOut_reaches (Client.onData_diags_again b g ds) (s.clientsAt s.chan) s

/-- `n` commands apply `g` `n` times to a reference client. -/
theorem ClientSlot.afterSends_onData_temp (t : TempClient) (bus : Option Nat) (n : Nat) :
    ClientSlot.afterSends (Client.onData b (fun t => (g t, ds))) n { dev := .temp t, bus := bus } =
      { dev := .temp (g^[n] t), bus := bus } := by
  induction n generalizing t with
  | zero => rfl
  | succ n ih => exact ih (g t)

/-- Where doing the command again changes nothing more, a reference client on the bus becomes `g` of itself, at however
many places it stands (R193, R224). -/
theorem clientsRun_temp_on_bus (hg : ∀ t, g (g t) = g t) {bus : Option Nat} (hbus : k ∈ s.clientsAt s.chan)
    (hk : s.clients[k]? = some { dev := .temp t, bus := bus }) :
    (clientsRun b (fun t => (g t, ds)) s).clients[k]? = some { dev := .temp (g t), bus := bus } := by
  obtain ⟨n, hn⟩ := Nat.exists_eq_succ_of_ne_zero (List.count_pos_iff.2 hbus).ne'
  rw [(clientsRun_reaches b g ds s).clients, hk, Option.map_some, ClientSlot.afterSends_onData_temp, hn,
    Function.iterate_succ_apply, Function.iterate_fixed (hg t)]

/-- A client off the bus of CHAN is untouched, and one of another type is as BusWrite leaves it (R145, R193). -/
theorem clientsRun_othersReceive (s : State) :
    s.othersReceive b (clientsRun b (fun t => (g t, ds)) s).clients := by
  refine fun k => ⟨fanOut_other _ _ s k, fun hother => ?_⟩
  have hwrite := fanOut_reaches (Client.sendData_diags_again s.cfg.clientOpc b) (s.clientsAt s.chan) s
  rw [(clientsRun_reaches b g ds s).clients, busWrite, hwrite.clients]
  refine Option.map_congr fun slot hslot => ClientSlot.afterSends_onData_congr _ _ (fun t ht => ?_) _
  have htemp : s.isTempClient k = true := State.isTempClient_iff.2 ⟨t, slot.bus, by rw [hslot, ← ht]⟩
  exact Bool.false_ne_true (hother.symm.trans htemp)

/-- A command that changes no reference client leaves each as it is, on the bus or off it. -/
theorem clientsRun_temp_same (hk : s.isTempClient k = true) :
    (clientsRun b (fun t => (t, ds)) s).clients[k]? = s.clients[k]? := by
  by_cases hbus : k ∈ s.clientsAt s.chan
  · obtain ⟨t, bus, hslot⟩ := State.isTempClient_iff.1 hk
    rw [hslot]
    exact clientsRun_temp_on_bus b id ds (fun _ => rfl) hbus hslot
  · exact (clientsRun_othersReceive b id ds s k).1 hbus

/-- A reference client emits `ds` and any other client nothing (R228). -/
theorem State.onData_diags (s : State) (k : Nat) :
    ((s.clients[k]?).map (fun slot => (slot.dev.onData b (fun t => (g t, ds))).diags)).getD [] =
      if s.isTempClient k then ds else [] := by
  unfold isTempClient
  cases s.clients[k]? with
  | none => rfl
  | some slot =>
    obtain ⟨dev, bus⟩ := slot
    cases dev <;> rfl

/-- The bridge is unchanged, and `ds` is logged for each place of a reference client on the bus (R193, R228). -/
theorem clientsRun_eq (s : State) :
    clientsRun b (fun t => (g t, ds)) s =
      { s with clients := (clientsRun b (fun t => (g t, ds)) s).clients
               diag := s.diag ++ (s.clientsAt s.chan).flatMap (fun k => if s.isTempClient k then ds else []) } := by
  have hreach := clientsRun_reaches b g ds s
  have hdiag := hreach.diags
  simp only [State.onData_diags] at hdiag
  rw [← hdiag]
  exact hreach.others

end Run

/-- One element for each member of the list that meets `p`. -/
theorem flatMap_ite_singleton {α β : Type} (p : α → Bool) (d : β) (l : List α) :
    l.flatMap (fun a => if p a then [d] else []) = List.replicate (l.filter p).length d := by
  induction l with
  | nil => rfl
  | cons a l ih => cases ha : p a <;> simp [ha, ih, List.replicate_succ]

/-- A command without diagnostics changes clients alone. -/
theorem clientsRun_quiet (b : Byte) (g : TempClient → TempClient) (s : State) :
    clientsRun b (fun t => (g t, [])) s = { s with clients := (clientsRun b (fun t => (g t, [])) s).clients } := by
  have hnone : (s.clientsAt s.chan).flatMap (fun k => if s.isTempClient k then [] else ([] : List Diag)) = [] :=
    List.flatMap_eq_nil_iff.2 fun _ _ => ite_self _
  have h := clientsRun_eq b g [] s
  rwa [hnone, List.append_nil] at h

/-- A byte the reference clients ignore changes none of them and is logged once for each place of one (R228). -/
theorem clientsIgnore_spec (b : Byte) (s : State) :
    clientsIgnore b s =
        { s with clients := (clientsIgnore b s).clients
                 diag := s.diag ++
                  List.replicate ((s.clientsAt s.chan).filter s.isTempClient).length (.unknownClientCommand b) } ∧
      (∀ k : Nat, s.isTempClient k = true → (clientsIgnore b s).clients[k]? = s.clients[k]?) ∧
      s.othersReceive b (clientsIgnore b s).clients := by
  refine ⟨?_, fun k => clientsRun_temp_same b _, clientsRun_othersReceive b id _ s⟩
  rw [← flatMap_ite_singleton]
  exact clientsRun_eq b id _ s

/-! ### Bytes that are no implemented command -/

/-- A byte is no client command exactly when it is none of the eleven (R117). -/
theorem decodeClient_none {o : ClientOpcodes} : decodeClient o b = none ↔ b ∉ o.all := by
  unfold decodeClient ClientOpcodes.all
  repeat' split
  all_goals simp_all

/-- A byte that is no client command is ignored with a diagnostic (R228). -/
theorem TempClient.data_unknown {o : ClientOpcodes} (h : decodeClient o b = none) :
    TempClient.data o b = fun t => (t, [.unknownClientCommand b]) := by
  have hne := decodeClient_none.1 h
  simp only [ClientOpcodes.all, List.mem_cons, List.not_mem_nil, or_false, not_or] at hne
  funext t
  simp [TempClient.data, hne]

/-- The broadcast of a byte that is no client command is ignored by the reference clients of the bus (R228). -/
theorem sendSelected_unknown (h : decodeClient s.cfg.clientOpc b = none) : sendSelected b s = clientsIgnore b s := by
  have hsend : Client.sendData s.cfg.clientOpc b = Client.onData b (fun t => (t, [.unknownClientCommand b])) :=
    funext fun c => congrArg (Client.onData b · c) (TempClient.data_unknown h)
  rw [sendSelected, busWrite, hsend]
  rfl

/-- Each of the six commands without an implementation is its byte, ignored (R228). -/
theorem exec_unimplemented {i : Instr}
    (hi : i ∈ [Instr.clientReadRom, .clientMatchRom, .clientAlarmSearch, .clientWriteScratchpad,
      .clientCopyScratchpad, .clientRecallE2]) (hb : encode s.cfg i = [b]) :
    exec i s = .next (clientsIgnore b s) := by
  simp only [List.mem_cons, List.not_mem_nil, or_false] at hi
  rcases hi with rfl | rfl | rfl | rfl | rfl | rfl <;> (obtain rfl := List.singleton_inj.1 hb; rfl)

/-! ### `recv` -/

/-- With unread bytes `recv` gives the byte at the cursor and advances it (R233). -/
theorem TempClient.recv_of_pos {x : Byte} (hrem : 0 < t.q.rem) (hx : (t.bufferBytes t.q.buf)[t.q.pos]? = some x) :
    t.recv = (x, { t with q := { t.q with pos := t.q.pos + 1, rem := t.q.rem - 1 } }, []) := by
  rw [recv, if_pos hrem, hx, Option.getD_some]

/-- With none `recv` gives 0x00 and a protocol violation (R235). -/
theorem TempClient.recv_of_zero (hrem : t.q.rem = 0) : t.recv = (0x00#8, t, [.recvEmpty]) := by
  rw [recv, if_neg hrem.not_gt]

/-! ### The obligations -/

/-- Settles O43: each command assigns the queue, so that doing it again changes nothing more; the rule of `clientsRun`
gives the clients and the frame. -/
theorem queueCommandsReplaceTheReadQueue : Obligations.QueueCommandsReplaceTheReadQueue := by
  intro s i b q hi
  suffices hrun : ∃ g : TempClient → TempClient, (∀ t, g t = { t with q := q }) ∧
      exec i s = .next (clientsRun b (fun t => (g t, [])) s) by
    obtain ⟨g, hg, hexec⟩ := hrun
    refine ⟨_, hexec.trans (congrArg _ (clientsRun_quiet b g s)), fun k t bus hbus hk => ?_,
      clientsRun_othersReceive b g [] s⟩
    rw [← hg t]
    exact clientsRun_temp_on_bus b g [] (fun u => by rw [hg u, hg]) hbus hk
  rcases hi with ⟨rfl, rfl, rfl⟩ | ⟨rfl, rfl, rfl⟩ | ⟨rfl, rfl, rfl⟩
  · exact ⟨TempClient.searchRom, fun _ => rfl, rfl⟩
  · exact ⟨TempClient.readPowerSupply, fun _ => rfl, rfl⟩
  · exact ⟨TempClient.readScratchpad, fun _ => rfl, rfl⟩

/-- Settles O44: SKIP_ROM is a command without diagnostics that changes no reference client. -/
theorem skipRomChangesNothing : Obligations.SkipRomChangesNothing := by
  intro s
  exact ⟨_, congrArg _ (clientsRun_quiet s.cfg.clientOpc.skipRom id s), fun k => clientsRun_temp_same _ [],
    clientsRun_othersReceive _ id [] s⟩

/-- Settles O45: a command without an implementation and the broadcast of an unknown byte are both the byte ignored. -/
theorem unimplementedClientCommandsAreIgnored : Obligations.UnimplementedClientCommandsAreIgnored := by
  rintro s b ds rfl
  obtain ⟨hignore, hrest⟩ := clientsIgnore_spec b s
  exact ⟨fun i hi hb => ⟨_, (exec_unimplemented hi hb).trans (congrArg _ hignore), hrest⟩,
    fun hunknown => ⟨_, (sendSelected_unknown hunknown).trans hignore, hrest⟩⟩

/-- Settles O47: `hasData` asks whether `rem` is positive, and `recv` branches on the same. -/
theorem recvReadsTheCursor : Obligations.RecvReadsTheCursor := by
  intro t
  refine ⟨decide_eq_true_iff, fun x hrem hx => ?_, fun hrem => ?_⟩
  · rw [Client.recv, TempClient.recv_of_pos hrem hx]
  · rw [Client.recv, TempClient.recv_of_zero hrem]

/-- Settles O58: the step appends `TempClient.fresh`, whose fields are the values of D29. -/
theorem newReferenceClientIsFresh : Obligations.NewReferenceClientIsFresh := by
  intro s rest hinput
  exact ⟨TempClient.fresh, step_cons s _ rest hinput, fun j => Vector.getElem_replicate j.isLt,
    fun j => Vector.getElem_replicate j.isLt, rfl, rfl, rfl⟩

end Sys2Proof.Machine
end

section
/-! SUPPORT. The decoder and the encoder are inverse (R100 to R103, R113): what each format's bytes decode to, what a
decoded byte can be, and the words placed as the next step. -/

namespace Sys2Proof.Machine

variable {c : Config} {o : Opcodes} {op w : Byte} {i j : Instr}

/-! ### Host commands -/

/-- Every bridge has the commands without a payload (R103). -/
theorem wellFormed_of_oneByte (hp : i.hasPayload = false) : i.wellFormed c = true := by
  cases i with
  | chsl v => exact absurd hp.symm Bool.false_ne_true
  | _ => rfl

/-- A command of format F1 is its opcode alone; the bytes after it are left (R103). -/
theorem decode_oneByte (h : decodeOpcode c.opc op = some i) (hp : i.hasPayload = false) (rest : List Byte) :
    decode c (op :: rest) = .instr i rest := by
  simp [decode, h, hp]

/-- A pending F2 opcode and its payload are the command they encode (R133). -/
theorem decodePayload_of_decodeCommand (h : decodeCommand o op w = some i) (hp : i.hasPayload = true) :
    decodePayload o op w = some i := by
  simp [decodePayload, h, hp]

/-- The payload of a command does not decide its format, nor whether the bridge has it (R102, R103). -/
theorem decodeCommand_format (hi : decodeCommand o op w = some i) {v : Byte} (hj : decodeCommand o op v = some j) :
    i.hasPayload = j.hasPayload ∧ i.wellFormed c = j.wellFormed c := by
  have hsame : (decodeCommand o op w).map (fun k => (k.hasPayload, k.wellFormed c)) =
      (decodeCommand o op v).map (fun k => (k.hasPayload, k.wellFormed c)) := by
    simp only [decodeCommand, apply_ite (Option.map _), Option.map_some, Option.map_none]
    rfl
  rw [hi, hj] at hsame
  exact Prod.mk.inj (Option.some.inj hsame)

/-- A command of format F2 the bridge has is its opcode and its payload; the bytes after them are left (R103). -/
theorem decode_twoByte (h : decodeCommand c.opc op w = some i) (hp : i.hasPayload = true)
    (hwf : i.wellFormed c = true) (rest : List Byte) : decode c (op :: w :: rest) = .instr i rest := by
  cases hj : decodeOpcode c.opc op with
  | none => exact absurd (decodeCommand_none.1 hj) (fun hnot => by simp [decodeCommand_none.2 hnot] at h)
  | some j =>
    obtain ⟨hpj, hwfj⟩ := decodeCommand_format (c := c) h hj
    simp [decode, hj, ← hpj, ← hwfj, hp, hwf, decodePayload_of_decodeCommand h hp]

/-- The bytes of a host command are its opcode, which decodes to it whatever follows, or its opcode and its payload,
which decode to it together (R101, R102). -/
theorem encode_host (hopc : c.opc.all.Nodup) (hi : i.isHost = true) :
    (i.hasPayload = false ∧ ∃ op, encode c i = [op] ∧ ∀ w, decodeCommand c.opc op w = some i) ∨
      (i.hasPayload = true ∧ ∃ op w, encode c i = [op, w] ∧ decodeCommand c.opc op w = some i) := by
  cases i with
  | drst => exact .inl ⟨rfl, _, rfl, fun w => (decodeCommand_own hopc w).1⟩
  | owrs =>
    refine .inl ⟨rfl, _, rfl, fun w => ?_⟩
    obtain ⟨-, howrs, -⟩ := decodeCommand_own hopc w
    exact howrs
  | owrb =>
    refine .inl ⟨rfl, _, rfl, fun w => ?_⟩
    obtain ⟨-, -, howrb, -⟩ := decodeCommand_own hopc w
    exact howrb
  | srp p =>
    obtain ⟨-, -, -, hsrp, -⟩ := decodeCommand_own hopc p
    exact .inr ⟨rfl, _, _, rfl, hsrp⟩
  | wcfg v =>
    obtain ⟨-, -, -, -, hwcfg, -⟩ := decodeCommand_own hopc v
    exact .inr ⟨rfl, _, _, rfl, hwcfg⟩
  | owsb b =>
    obtain ⟨-, -, -, -, -, howsb, -⟩ := decodeCommand_own hopc b
    exact .inr ⟨rfl, _, _, rfl, howsb⟩
  | owwb b =>
    obtain ⟨-, -, -, -, -, -, howwb, -⟩ := decodeCommand_own hopc b
    exact .inr ⟨rfl, _, _, rfl, howwb⟩
  | owt d =>
    obtain ⟨-, -, -, -, -, -, -, howt, -⟩ := decodeCommand_own hopc d
    exact .inr ⟨rfl, _, _, rfl, howt⟩
  | chsl v =>
    obtain ⟨-, -, -, -, -, -, -, -, hchsl⟩ := decodeCommand_own hopc v
    exact .inr ⟨rfl, _, _, rfl, hchsl⟩
  | clientSearchRom | clientReadRom | clientMatchRom | clientSkipRom | clientAlarmSearch | clientConvertT
  | clientWriteScratchpad | clientReadScratchpad | clientCopyScratchpad | clientRecallE2
  | clientReadPowerSupply => exact absurd hi Bool.false_ne_true

/-- What an opcode byte decodes to is a host command (R101). -/
theorem decodeCommand_isHost (h : decodeCommand o op w = some i) : i.isHost = true := by
  rcases decodeCommand_some h with ⟨_, rfl⟩ | ⟨_, rfl⟩ | ⟨_, rfl⟩ | ⟨_, rfl⟩ | ⟨_, rfl⟩ | ⟨_, rfl⟩ | ⟨_, rfl⟩ |
    ⟨_, rfl⟩ | ⟨_, rfl⟩ <;> rfl

/-- A decoded command of format F1 is encoded by its opcode (R101). -/
theorem encode_of_decodeCommand_oneByte (h : decodeCommand c.opc op w = some i) (hp : i.hasPayload = false) :
    encode c i = [op] := by
  rcases decodeCommand_some h with ⟨rfl, rfl⟩ | ⟨rfl, rfl⟩ | ⟨rfl, rfl⟩ | ⟨_, rfl⟩ | ⟨_, rfl⟩ | ⟨_, rfl⟩ | ⟨_, rfl⟩ |
    ⟨_, rfl⟩ | ⟨_, rfl⟩
  · rfl
  · rfl
  · rfl
  all_goals exact absurd hp.symm Bool.false_ne_true

/-- A decoded command of format F2 is encoded by its opcode and its payload (R101). -/
theorem encode_of_decodePayload (h : decodePayload c.opc op w = some i) : encode c i = [op, w] := by
  obtain ⟨-, hi⟩ := decodePayload_some h
  rcases hi with ⟨rfl, rfl⟩ | ⟨rfl, rfl⟩ | ⟨rfl, rfl⟩ | ⟨rfl, rfl⟩ | ⟨rfl, rfl⟩ | ⟨rfl, rfl⟩ <;> rfl

/-- Every way bytes decode to an instruction: a command of format F1, or one of format F2 that the bridge has (R103). -/
theorem decode_instr {bytes rest : List Byte} (h : decode c bytes = .instr i rest) :
    ∃ op, (bytes = op :: rest ∧ decodeOpcode c.opc op = some i ∧ i.hasPayload = false) ∨
      ∃ w j, bytes = op :: w :: rest ∧ decodePayload c.opc op w = some i ∧
        decodeOpcode c.opc op = some j ∧ j.wellFormed c = true := by
  unfold decode at h
  split at h
  · cases h
  · next op rest' =>
    refine ⟨op, ?_⟩
    split at h
    · cases h
    · next j hj =>
      split_ifs at h with hp hwf
      · cases h
        exact .inl ⟨rfl, hj, by simpa using hp⟩
      · split at h
        · cases h
        · split at h
          · cases h
          · next hi =>
            cases h
            exact .inr ⟨_, j, rfl, hi, hj, by simpa using hwf⟩

/-! ### Client commands -/

/-- A byte that decodes to a client command is that command's byte (R113). -/
theorem encode_of_decodeClient {b : Byte} (h : decodeClient c.clientOpc b = some i) :
    i.isHost = false ∧ encode c i = [b] := by
  simp only [decodeClient, ite_eq_iff, Option.some.injEq, reduceCtorEq, and_false, or_false] at h
  rcases h with ⟨rfl, rfl⟩ | ⟨-, ⟨rfl, rfl⟩ | ⟨-, ⟨rfl, rfl⟩ | ⟨-, ⟨rfl, rfl⟩ | ⟨-, ⟨rfl, rfl⟩ | ⟨-, ⟨rfl, rfl⟩ | ⟨-,
    ⟨rfl, rfl⟩ | ⟨-, ⟨rfl, rfl⟩ | ⟨-, ⟨rfl, rfl⟩ | ⟨-, ⟨rfl, rfl⟩ | ⟨-, rfl, rfl⟩⟩⟩⟩⟩⟩⟩⟩⟩⟩
  all_goals exact ⟨rfl, rfl⟩

/-- The byte of a client command decodes to it (R113). -/
theorem encode_client (hclient : c.clientOpc.all.Nodup) (hi : i.isHost = false) :
    ∃ b, encode c i = [b] ∧ decodeClient c.clientOpc b = some i := by
  obtain ⟨hsearchRom, hreadRom, hmatchRom, hskipRom, halarmSearch, hconvertT, hwriteScratchpad, hreadScratchpad,
    hcopyScratchpad, hrecallE2, hreadPowerSupply⟩ := decodeClient_own hclient
  cases i with
  | drst | owrs | owrb | srp _ | wcfg _ | owsb _ | owwb _ | owt _ | chsl _ => exact absurd hi.symm Bool.false_ne_true
  | clientSearchRom => exact ⟨_, rfl, hsearchRom⟩
  | clientReadRom => exact ⟨_, rfl, hreadRom⟩
  | clientMatchRom => exact ⟨_, rfl, hmatchRom⟩
  | clientSkipRom => exact ⟨_, rfl, hskipRom⟩
  | clientAlarmSearch => exact ⟨_, rfl, halarmSearch⟩
  | clientConvertT => exact ⟨_, rfl, hconvertT⟩
  | clientWriteScratchpad => exact ⟨_, rfl, hwriteScratchpad⟩
  | clientReadScratchpad => exact ⟨_, rfl, hreadScratchpad⟩
  | clientCopyScratchpad => exact ⟨_, rfl, hcopyScratchpad⟩
  | clientRecallE2 => exact ⟨_, rfl, hrecallE2⟩
  | clientReadPowerSupply => exact ⟨_, rfl, hreadPowerSupply⟩

/-! ### The obligations -/

/-- Settles O1: distinct opcodes make each command's bytes decode to it, by its format. -/
theorem decodeOfEncodeIsTheInstruction : Obligations.DecodeOfEncodeIsTheInstruction := by
  intro c i hcfg hwf
  obtain ⟨-, hopc⟩ := Config.wellFormed_opc hcfg
  refine ⟨fun hhost rest => ?_, encode_client (Config.wellFormed_clientOpc hcfg)⟩
  rcases encode_host hopc hhost with ⟨hp, op, henc, hdec⟩ | ⟨hp, op, w, henc, hdec⟩
  · rw [henc]
    exact decode_oneByte (hdec payloadToCome) hp rest
  · rw [henc]
    exact decode_twoByte hdec hp hwf rest

/-- Settles O2: each way of decoding names the opcode, whose command is encoded by it; a payload does not decide
whether the bridge has the command. -/
theorem encodeOfDecodeIsTheBytes : Obligations.EncodeOfDecodeIsTheBytes := by
  refine ⟨fun c bytes rest i h => ?_, fun c b i => encode_of_decodeClient⟩
  obtain ⟨op, ⟨rfl, hi, hp⟩ | ⟨w, j, rfl, hi, hj, hwf⟩⟩ := decode_instr h
  · rw [encode_of_decodeCommand_oneByte hi hp]
    exact ⟨decodeCommand_isHost hi, wellFormed_of_oneByte hp, rfl⟩
  · have hcommand : decodeCommand c.opc op w = some i := (Option.filter_eq_some_iff.1 hi).1
    rw [encode_of_decodePayload hi]
    exact ⟨decodeCommand_isHost hcommand, (decodeCommand_format hcommand hj).2.trans hwf, rfl⟩

/-- Settles O3: the words at the default bytes, decoded. -/
theorem specWordsDecode : Obligations.SpecWordsDecode := by
  unfold Obligations.SpecWordsDecode
  decide

end Sys2Proof.Machine
end

section
/-! SUPPORT. What the host commands do (R135 to R142): the frames of the bus operations they use, each command's whole
next state behind an open busy guard, and the busy guard itself (R131). -/

namespace Sys2Proof.Machine

variable {s : State}

/-! ### The frames of the bus operations -/

/-- A RESET changes clients alone: no client emits a diagnostic at it (R192). -/
theorem busReset_frame (ch : Nat) (s : State) :
    (busReset ch s).1 = { s with clients := (busReset ch s).1.clients } := by
  have hreach := busResetReachesEveryClient s ch
  have hdiag : (busReset ch s).1.diag = s.diag := by
    rw [hreach.diags]
    refine (congrArg (s.diag ++ ·) (List.flatMap_eq_nil_iff.2 fun k _ => ?_)).trans (List.append_nil _)
    cases s.clients[k]? with
    | none => rfl
    | some slot => exact Client.sendReset_diags slot.dev
  rw [← hdiag]
  exact hreach.others

/-- A client that holds data exists (R232). -/
theorem State.clientHasData_iff {k : Nat} :
    s.clientHasData k = true ↔ ∃ slot, s.clients[k]? = some slot ∧ slot.dev.hasData = true := by
  unfold clientHasData
  cases s.clients[k]? <;> simp

/-- The read-back arbiter logs nothing: it asks only a client with data (R194). -/
theorem readFirst_diag (ks : List Nat) (s : State) : (readFirst ks s).1.diag = s.diag := by
  induction ks with
  | nil => rfl
  | cons k ks ih =>
    cases hdata : s.clientHasData k with
    | false => rw [readFirst_cons_silent hdata, ih]
    | true =>
      obtain ⟨slot, hk, hslot⟩ := State.clientHasData_iff.1 hdata
      rw [readFirst_cons_answers hk hslot]

/-- A read-back changes clients alone (R194). -/
theorem busRead_frame (ch : Nat) (s : State) :
    (busRead ch s).1 = { s with clients := (busRead ch s).1.clients } := by
  conv_rhs => rw [← readFirst_diag (s.clientsAt ch) s]
  exact readFirst_frame _ s

/-- A byte to the bus of CHAN changes clients and diagnostics alone (R193). -/
theorem sendSelected_eq (b : Byte) (s : State) :
    sendSelected b s =
      { s with clients := (busWrite s.chan b s).1.clients, diag := (busWrite s.chan b s).1.diag } :=
  fanOut_frame _ _ s

/-! ### The effects of the commands -/

/-- The auxiliary registers a DRST clears under `DRST_CLEARS_AUX` (R135). -/
theorem clearAux_eq (s : State) :
    clearAux s = { s with
      rdata := if s.cfg.drstClearsAux then 0x00#8 else s.rdata
      cursor := if s.cfg.drstClearsAux then 0#3 else s.cursor
      armed := if s.cfg.drstClearsAux then false else s.armed } := by
  unfold clearAux
  split <;> rfl

/-- The PPD rule of 1WRS as bit masks (R36, R136). -/
theorem statusAfterReset_eq (c : Config) (present : Bool) (st : Byte) :
    statusAfterReset c present st =
      if present then st ||| 0x02#8 else if c.ppdClearOnAbsent then st &&& 0xFD#8 else st := rfl

/-- 1WRS after the bus has answered: PPD, PTR and the clients (R136). -/
theorem afterBusReset_eq (s : State) :
    afterBusReset (busReset s.chan s).2 (busReset s.chan s).1 = { s with
      status := statusAfterReset s.cfg (busReset s.chan s).2 s.status
      ptr := s.cfg.ptrc.status
      clients := (busReset s.chan s).1.clients } := by
  rw [afterBusReset, busReset_frame]

/-- A latched byte: RDATA and the client that gave it (R137). -/
theorem latchByte_eq (s : State) :
    latchByte s = { s with rdata := (busRead s.chan s).2, clients := (busRead s.chan s).1.clients } := by
  rw [latchByte, busRead_frame]

/-- The payload phase 1WSB, 1WWB and 1WT share: the clients of the bus of CHAN, their diagnostics, PTR (R133). -/
theorem broadcastPayload_eq (b : Byte) (s : State) :
    broadcastPayload b s = { s with
      clients := (busWrite s.chan b s).1.clients
      diag := (busWrite s.chan b s).1.diag
      ptr := s.cfg.ptrc.status } := by
  rw [broadcastPayload, sendSelected_eq]

/-! ### The commands, by their phases -/

/-- DRST of a bridge that is not busy (R135). -/
theorem exec_drst_ready (hb : s.busy = false) :
    exec .drst s = .next { s with
      status := s.cfg.statusReset, config := s.cfg.configReset, ptr := s.cfg.ptrc.status, chan := 0
      rdata := if s.cfg.drstClearsAux then 0x00#8 else s.rdata
      cursor := if s.cfg.drstClearsAux then 0#3 else s.cursor
      armed := if s.cfg.drstClearsAux then false else s.armed
      responses := s.responses ++ [.outcome .ok] } :=
  (execDrst_ready hb).trans (congrArg (finish .ok) (clearAux_eq _))

/-- 1WRS of a bridge that is not busy (R136). -/
theorem exec_owrs_ready (hb : s.busy = false) :
    exec .owrs s = .next { s with
      status := statusAfterReset s.cfg (busReset s.chan s).2 s.status
      ptr := s.cfg.ptrc.status
      clients := (busReset s.chan s).1.clients
      responses := s.responses ++ [.outcome .ok] } :=
  (execOwrs_ready hb).trans (congrArg (finish .ok) (afterBusReset_eq s))

/-- 1WRB of a bridge that is not busy (R137). -/
theorem exec_owrb_ready (hb : s.busy = false) :
    exec .owrb s = .next { s with
      rdata := (busRead s.chan s).2, clients := (busRead s.chan s).1.clients
      responses := s.responses ++ [.outcome .ok] } :=
  (execOwrb_ready hb).trans (congrArg (finish .ok) (latchByte_eq s))

/-- SRP under a pending opcode stores its payload raw (R138). -/
theorem exec_srp_pending (p : Byte) (hb : s.busy = false) (hp : s.pending ≠ 0x00#8) :
    exec (.srp p) s =
      .next { s with ptr := p, pending := 0x00#8, responses := s.responses ++ [.outcome .ok] } := by
  rw [exec, execSrp, twoPhase_payload s _ _ hb hp]
  rfl

/-- WCFG under a pending opcode stores its payload verbatim (R139). -/
theorem exec_wcfg_pending (v : Byte) (hb : s.busy = false) (hp : s.pending ≠ 0x00#8) :
    exec (.wcfg v) s =
      .next { s with config := v, ptr := s.cfg.ptrc.config, pending := 0x00#8,
                     responses := s.responses ++ [.outcome .ok] } := by
  rw [exec, execWcfg, twoPhase_payload s _ _ hb hp]
  rfl

/-- 1WSB and 1WWB under a pending opcode broadcast their payload (R140, R141). -/
theorem exec_broadcast_pending (b : Byte) {i : Instr} (hi : i = .owsb b ∨ i = .owwb b) (hb : s.busy = false)
    (hp : s.pending ≠ 0x00#8) :
    exec i s = .next { s with
      clients := (busWrite s.chan b s).1.clients, diag := (busWrite s.chan b s).1.diag
      ptr := s.cfg.ptrc.status, pending := 0x00#8, responses := s.responses ++ [.outcome .ok] } := by
  rcases hi with rfl | rfl
  · rw [exec, execOwsb, twoPhase_payload s _ _ hb hp, broadcastPayload_eq]
    rfl
  · rw [exec, execOwwb, twoPhase_payload s _ _ hb hp, broadcastPayload_eq]
    rfl

/-- 1WT under a pending opcode broadcasts its payload and arms the triplet step (R142). -/
theorem exec_owt_pending (d : Byte) (hb : s.busy = false) (hp : s.pending ≠ 0x00#8) :
    exec (.owt d) s = .next { s with
      clients := (busWrite s.chan d s).1.clients, diag := (busWrite s.chan d s).1.diag
      ptr := s.cfg.ptrc.status, armed := true, pending := 0x00#8, responses := s.responses ++ [.outcome .ok] } := by
  rw [exec, execOwt, twoPhase_payload s _ _ hb hp, broadcastPayload_eq]
  rfl

/-- Every host command stands behind the busy guard (R131, R258). -/
theorem exec_busy {i : Instr} (hb : s.busy = true) (hi : i.isHost = true) : exec i s = busyReject s := by
  cases i with
  | drst => rw [exec, execDrst, guarded_busy s _ hb]
  | owrs => rw [exec, execOwrs, guarded_busy s _ hb]
  | owrb => rw [exec, execOwrb, guarded_busy s _ hb]
  | srp p => rw [exec, execSrp, twoPhase, guarded_busy s _ hb]
  | wcfg v => rw [exec, execWcfg, twoPhase, guarded_busy s _ hb]
  | owsb b => rw [exec, execOwsb, twoPhase, guarded_busy s _ hb]
  | owwb b => rw [exec, execOwwb, twoPhase, guarded_busy s _ hb]
  | owt d => rw [exec, execOwt, twoPhase, guarded_busy s _ hb]
  | chsl v => rw [exec, execChsl, twoPhase, guarded_busy s _ hb]
  | clientSearchRom | clientReadRom | clientMatchRom | clientSkipRom | clientAlarmSearch | clientConvertT
  | clientWriteScratchpad | clientReadScratchpad | clientCopyScratchpad | clientRecallE2
  | clientReadPowerSupply => exact absurd hi Bool.false_ne_true

/-! ### The obligations -/

/-- Settles O10: the guard rejects every host command before its body. -/
theorem busyCommandHasNoEffect : Obligations.BusyCommandHasNoEffect :=
  fun _ _ hbusy hhost => exec_busy hbusy hhost

/-- Settles O14: DRST runs behind the open guard; PENDING is 0 already. -/
theorem resetBridgeResult : Obligations.ResetBridgeResult := by
  intro s hbusy hidle
  rw [exec_drst_ready hbusy, ← hidle]

/-- Settles O15: 1WRS runs behind the open guard; its PPD rule is the two masks of bit 1. -/
theorem oneWireResetResult : Obligations.OneWireResetResult := by
  intro s hbusy _
  rw [exec_owrs_ready hbusy, statusAfterReset_eq]

/-- Settles O16: 1WRB runs behind the open guard. -/
theorem readByteResult : Obligations.ReadByteResult :=
  fun _ hbusy _ => exec_owrb_ready hbusy

/-- Settles O17: SRP awaits its payload in Idle and takes it under its opcode, which is not 0. -/
theorem setReadPointerResult : Obligations.SetReadPointerResult := by
  intro s p hcfg hbusy
  obtain ⟨hsrp, -⟩ := Config.wellFormed_pending hcfg
  exact ⟨fun hidle => execSrp_idle p hbusy hidle, fun hpend => exec_srp_pending p hbusy (hpend ▸ hsrp)⟩

/-- Settles O18: WCFG awaits its payload in Idle and takes it under its opcode, which is not 0. -/
theorem writeConfigResult : Obligations.WriteConfigResult := by
  intro s v hcfg hbusy
  obtain ⟨-, hwcfg, -⟩ := Config.wellFormed_pending hcfg
  exact ⟨fun hidle => execWcfg_idle v hbusy hidle, fun hpend => exec_wcfg_pending v hbusy (hpend ▸ hwcfg)⟩

/-- Settles O19: 1WSB and 1WWB await their payload in Idle and broadcast it under their opcode, which is not 0. -/
theorem singleBitAndWriteByteResult : Obligations.SingleBitAndWriteByteResult := by
  intro s b hcfg hbusy
  obtain ⟨-, -, howsb, howwb, -⟩ := Config.wellFormed_pending hcfg
  exact ⟨fun hidle => ⟨execOwsb_idle b hbusy hidle, execOwwb_idle b hbusy hidle⟩,
    fun hpend => exec_broadcast_pending b (.inl rfl) hbusy (hpend ▸ howsb),
    fun hpend => exec_broadcast_pending b (.inr rfl) hbusy (hpend ▸ howwb)⟩

/-- Settles O20: 1WT awaits its payload in Idle; under its opcode, which is not 0, it broadcasts it and arms. -/
theorem tripletCommandResult : Obligations.TripletCommandResult := by
  intro s d hcfg hbusy
  obtain ⟨-, -, -, -, howt, -⟩ := Config.wellFormed_pending hcfg
  exact ⟨fun hidle => execOwt_idle d hbusy hidle, fun hpend => exec_owt_pending d hbusy (hpend ▸ howt)⟩

end Sys2Proof.Machine
end

section
/-! SUPPORT. Everything an instruction can do to the state, said once (`Ran`), and what follows for every instruction:
the response and the PENDING it leaves, the clients it can reach, the registers it can write, the busy bit. -/

namespace Sys2Proof.Machine

/-- `Ran i s t`: the ways instruction `i` takes `s` to `t`, one constructor each, with the condition it happens under. -/
inductive Ran : Instr → State → State → Prop
  /-- Rejected by the busy guard (R131). -/
  | rejected {i : Instr} {s : State} (hi : i.isHost = true) (hb : s.busy = true) :
      Ran i s { s with pending := 0x00#8, diag := s.diag ++ [.busyReject], responses := s.responses ++ [.outcome .busy] }
  /-- DRST (R135). -/
  | resetBridge {s : State} :
      Ran .drst s { s with
        status := s.cfg.statusReset, config := s.cfg.configReset, ptr := s.cfg.ptrc.status, chan := 0
        rdata := if s.cfg.drstClearsAux then 0x00#8 else s.rdata
        cursor := if s.cfg.drstClearsAux then 0#3 else s.cursor
        armed := if s.cfg.drstClearsAux then false else s.armed
        responses := s.responses ++ [.outcome .ok] }
  /-- 1WRS (R136). -/
  | resetBus {s : State} :
      Ran .owrs s { s with
        status := statusAfterReset s.cfg (busReset s.chan s).2 s.status, ptr := s.cfg.ptrc.status
        clients := (busReset s.chan s).1.clients, responses := s.responses ++ [.outcome .ok] }
  /-- 1WRB (R137). -/
  | readByte {s : State} :
      Ran .owrb s { s with
        rdata := (busRead s.chan s).2, clients := (busRead s.chan s).1.clients
        responses := s.responses ++ [.outcome .ok] }
  /-- The opcode phase of an F2 command the bridge has (R132). -/
  | awaits {i : Instr} {s : State} {op : Byte} (hi : i.isHost = true) (hp : s.pending = 0x00#8)
      (hop : op ∈ [s.cfg.opc.srp, s.cfg.opc.wcfg, s.cfg.opc.owsb, s.cfg.opc.owwb, s.cfg.opc.owt] ∨
        op = s.cfg.opc.chsl ∧ s.cfg.numChannels ≠ 1) :
      Ran i s { s with pending := op, responses := s.responses ++ [.outcome .ok] }
  /-- SRP, payload phase (R138). -/
  | setPointer {s : State} {p : Byte} :
      Ran (.srp p) s { s with ptr := p, pending := 0x00#8, responses := s.responses ++ [.outcome .ok] }
  /-- WCFG, payload phase (R139). -/
  | writeConfig {s : State} {c : Byte} :
      Ran (.wcfg c) s { s with
        config := c, ptr := s.cfg.ptrc.config, pending := 0x00#8, responses := s.responses ++ [.outcome .ok] }
  /-- 1WSB and 1WWB, payload phase (R140, R141). -/
  | broadcast {i : Instr} {s : State} {b : Byte} (hi : i = .owsb b ∨ i = .owwb b) :
      Ran i s { s with
        clients := (busWrite s.chan b s).1.clients, diag := (busWrite s.chan b s).1.diag
        ptr := s.cfg.ptrc.status, pending := 0x00#8, responses := s.responses ++ [.outcome .ok] }
  /-- 1WT, payload phase (R142). -/
  | triplet {s : State} {d : Byte} :
      Ran (.owt d) s { s with
        clients := (busWrite s.chan d s).1.clients, diag := (busWrite s.chan d s).1.diag
        ptr := s.cfg.ptrc.status, armed := true, pending := 0x00#8, responses := s.responses ++ [.outcome .ok] }
  /-- CHSL on a 1-channel bridge, opcode phase (R143). -/
  | unsupported {s : State} {c : Byte} (hp : s.pending = 0x00#8) :
      Ran (.chsl c) s { s with diag := s.diag ++ [.unsupported], responses := s.responses ++ [.outcome .unsupported] }
  /-- CHSL, payload phase, a channel that exists (R143). -/
  | selectChannel {s : State} {c : Byte} (hc : c.toNat % 16 < s.cfg.numChannels) :
      Ran (.chsl c) s { s with
        chan := c.toNat % 16, ptr := s.cfg.ptrc.channel, pending := 0x00#8
        responses := s.responses ++ [.outcome .ok] }
  /-- CHSL, payload phase, no such channel (R143). -/
  | invalidChannel {s : State} {c : Byte} :
      Ran (.chsl c) s { s with
        pending := 0x00#8, diag := s.diag ++ [.invalidChannel (c.toNat % 16)]
        responses := s.responses ++ [.outcome .invalidChannel] }
  /-- A client command (R193, R200). -/
  | client {i : Instr} {s : State} (hi : i.isHost = false) (b : Byte) (f : TempClient → TempClient × List Diag) :
      Ran i s { s with clients := (clientsRun b f s).clients, diag := (clientsRun b f s).diag }

variable {i : Instr} {s t : State}

/-- An answer known as a next state is that next state. -/
theorem Ran.of_eq {t' : State} (h : exec i s = .next t) (h' : exec i s = .next t') (hran : Ran i s t') : Ran i s t := by
  obtain rfl : t = t' := Host.Outcome.next.inj (h.symm.trans h')
  exact hran

/-- An instruction that answers a next state ran in one of the ways of `Ran`. -/
theorem exec_ran (h : exec i s = .next t) : Ran i s t := by
  cases hhost : i.isHost with
  | false =>
    obtain ⟨b, f, hrun⟩ := exec_client i s hhost
    exact .of_eq h (hrun.trans (congrArg _ (fanOut_frame _ _ s))) (.client hhost b f)
  | true =>
    rcases Bool.eq_false_or_eq_true s.busy with hb | hb
    · exact .of_eq h (exec_busy hb hhost) (.rejected hhost hb)
    by_cases hp : s.pending = 0x00#8
    · cases i with
      | drst => exact .of_eq h (exec_drst_ready hb) .resetBridge
      | owrs => exact .of_eq h (exec_owrs_ready hb) .resetBus
      | owrb => exact .of_eq h (exec_owrb_ready hb) .readByte
      | srp p => exact .of_eq h (execSrp_idle p hb hp) (.awaits rfl hp (.inl (by simp)))
      | wcfg v => exact .of_eq h (execWcfg_idle v hb hp) (.awaits rfl hp (.inl (by simp)))
      | owsb b => exact .of_eq h (execOwsb_idle b hb hp) (.awaits rfl hp (.inl (by simp)))
      | owwb b => exact .of_eq h (execOwwb_idle b hb hp) (.awaits rfl hp (.inl (by simp)))
      | owt d => exact .of_eq h (execOwt_idle d hb hp) (.awaits rfl hp (.inl (by simp)))
      | chsl v =>
        have hidle := exec_chsl_idle v hb hp
        by_cases hone : s.cfg.numChannels = 1
        · exact .of_eq h (hidle.trans (channelSelectOpcode_one hone)) (.unsupported hp)
        · exact .of_eq h (hidle.trans (channelSelectOpcode_many hone)) (.awaits rfl hp (.inr ⟨rfl, hone⟩))
      | _ => exact absurd hhost Bool.false_ne_true
    · cases i with
      | drst => exact .of_eq h (exec_drst_ready hb) .resetBridge
      | owrs => exact .of_eq h (exec_owrs_ready hb) .resetBus
      | owrb => exact .of_eq h (exec_owrb_ready hb) .readByte
      | srp p => exact .of_eq h (exec_srp_pending p hb hp) .setPointer
      | wcfg v => exact .of_eq h (exec_wcfg_pending v hb hp) .writeConfig
      | owsb b => exact .of_eq h (exec_broadcast_pending b (.inl rfl) hb hp) (.broadcast (.inl rfl))
      | owwb b => exact .of_eq h (exec_broadcast_pending b (.inr rfl) hb hp) (.broadcast (.inr rfl))
      | owt d => exact .of_eq h (exec_owt_pending d hb hp) .triplet
      | chsl v =>
        have hpend := exec_chsl_pending v hb hp
        rcases Nat.lt_or_ge (v.toNat % 16) s.cfg.numChannels with hv | hv
        · exact .of_eq h (hpend.trans (channelSelectPayload_valid hv)) (.selectChannel hv)
        · exact .of_eq h (hpend.trans (channelSelectPayload_invalid hv)) .invalidChannel
      | _ => exact absurd hhost Bool.false_ne_true

/-! ### What every instruction keeps and writes -/

/-- A command with a payload is a host command (R102). -/
theorem isHost_of_hasPayload (hi : i.hasPayload = true) : i.isHost = true := by
  cases i with
  | drst | owrs | owrb | srp _ | wcfg _ | owsb _ | owwb _ | owt _ | chsl _ => rfl
  | _ => exact absurd hi Bool.false_ne_true

/-- A host command adds one outcome to the responses (R147). -/
theorem Ran.responses (h : Ran i s t) (hi : i.isHost = true) :
    ∃ o, t.responses = s.responses ++ [.outcome o] := by
  cases h with
  | client hclient => exact absurd (hclient.symm.trans hi) Bool.false_ne_true
  | _ => exact ⟨_, rfl⟩

/-- An F2 command under a pending opcode leaves PENDING 0 (R134). -/
theorem Ran.pending (h : Ran i s t) (hi : i.hasPayload = true) (hp : s.pending ≠ 0x00#8) : t.pending = 0x00#8 := by
  cases h with
  | awaits _ hidle => exact absurd hidle hp
  | unsupported hidle => exact absurd hidle hp
  | resetBridge | resetBus | readByte => exact absurd hi Bool.false_ne_true
  | client hclient => exact absurd (hclient.symm.trans (isHost_of_hasPayload hi)) Bool.false_ne_true
  | _ => rfl

/-- No instruction changes a bus, the wiring, the parameters, the run, the draws or the host-access mark (R145). -/
theorem Ran.keeps (h : Ran i s t) :
    t.buses = s.buses ∧ t.wiring = s.wiring ∧ t.cfg = s.cfg ∧ t.input = s.input ∧ t.draws = s.draws ∧
      t.hostAccessed = s.hostAccessed := by
  cases h <;> exact ⟨rfl, rfl, rfl, rfl, rfl, rfl⟩

/-- A client off the bus of CHAN is unchanged (R145). -/
theorem Ran.clients_other (h : Ran i s t) {k : Nat} (hk : k ∉ s.clientsAt s.chan) : t.clients[k]? = s.clients[k]? := by
  cases h with
  | resetBus => exact fanOut_other _ _ s k hk
  | readByte => exact readFirst_other _ s k hk
  | broadcast => exact fanOut_other _ _ s k hk
  | triplet => exact fanOut_other _ _ s k hk
  | client _ b f => exact fanOut_other _ _ s k hk
  | _ => rfl

/-- An entry of a list written with what it holds is the list. -/
theorem set_of_getElem? {α : Type} {l : List α} {k : Nat} {a : α} (h : l[k]? = some a) : l.set k a = l := by
  obtain ⟨hlt, rfl⟩ := List.getElem?_eq_some_iff.1 h
  exact List.set_getElem_self hlt

/-- A client replaced keeps its back-reference (R191). -/
theorem map_bus_set (cs : List ClientSlot) {k : Nat} {slot slot' : ClientSlot} (hk : cs[k]? = some slot)
    (hbus : slot'.bus = slot.bus) : (cs.set k slot').map ClientSlot.bus = cs.map ClientSlot.bus := by
  rw [List.map_set, hbus]
  exact set_of_getElem? (by rw [List.getElem?_map, hk, Option.map_some])

/-- A message changes no back-reference (R192, R193). -/
theorem fanOut_bus (send : Client → ClientReply) (ks : List Nat) (s : State) :
    (fanOut send ks s).1.clients.map ClientSlot.bus = s.clients.map ClientSlot.bus := by
  induction ks generalizing s with
  | nil => rfl
  | cons k ks ih =>
    cases hk : s.clients[k]? with
    | none => rw [fanOut_cons_none hk, ih]
    | some slot =>
      rw [fanOut_cons_some hk]
      exact (ih _).trans (map_bus_set s.clients hk rfl)

/-- A read-back changes no back-reference (R194). -/
theorem readFirst_bus (ks : List Nat) (s : State) :
    (readFirst ks s).1.clients.map ClientSlot.bus = s.clients.map ClientSlot.bus := by
  induction ks with
  | nil => rfl
  | cons k ks ih =>
    cases hdata : s.clientHasData k with
    | false => rw [readFirst_cons_silent hdata, ih]
    | true =>
      obtain ⟨slot, hk, hslot⟩ := State.clientHasData_iff.1 hdata
      rw [readFirst_cons_answers hk hslot]
      exact map_bus_set s.clients hk rfl

/-- No instruction changes a back-reference (R145). -/
theorem Ran.bus (h : Ran i s t) : t.clients.map ClientSlot.bus = s.clients.map ClientSlot.bus := by
  cases h with
  | resetBus => exact fanOut_bus _ _ s
  | readByte => exact readFirst_bus _ s
  | broadcast => exact fanOut_bus _ _ s
  | triplet => exact fanOut_bus _ _ s
  | client _ b f => exact fanOut_bus _ _ s
  | _ => rfl

/-- Bit 0 of STATUS_RESET is 0 and the PPD rule does not write it, so no instruction sets 1WB (R37, R282). -/
theorem Ran.busy (h : Ran i s t) (hcfg : s.cfg.wellFormed = true) (hb : t.busy = true) : s.busy = true := by
  cases h with
  | resetBridge =>
    obtain ⟨hbit, -⟩ := Config.wellFormed_status hcfg
    exact absurd (hbit.symm.trans hb) Bool.false_ne_true
  | resetBus => exact (getLsbD_statusAfterReset _ _ _ 0 (by decide)).symm.trans hb
  | _ => exact hb

/-! ### The obligations -/

/-- Settles O22: by the ways an instruction can run. -/
theorem instructionStaysOnTheSelectedBus : Obligations.InstructionStaysOnTheSelectedBus := by
  intro i s t h
  have hran := exec_ran h
  exact ⟨fun k hk => hran.clients_other hk, hran.bus, hran.keeps⟩

/-- Settles O23: by the ways an instruction can run; each writes the registers its constructor names. -/
theorem registerWriters : Obligations.RegisterWriters := by
  intro i s t h
  have hran := exec_ran h
  refine ⟨fun hne => ?_, fun hne => ?_, fun hne => ?_, fun hne => ?_, fun hne => ?_, fun hne => ?_, fun hne => ?_,
    fun hclient => ?_⟩
  · cases hran with
    | resetBridge => exact .inl rfl
    | writeConfig => exact .inr ⟨_, rfl⟩
    | _ => exact absurd rfl hne
  · cases hran with
    | resetBridge => exact .inl rfl
    | resetBus => exact .inr rfl
    | _ => exact absurd rfl hne
  · cases hran with
    | resetBridge => exact .inr ⟨rfl, by_contra fun hkeep => hne (if_neg hkeep)⟩
    | readByte => exact .inl rfl
    | _ => exact absurd rfl hne
  · cases hran with
    | resetBridge => exact ⟨rfl, by_contra fun hkeep => hne (if_neg hkeep)⟩
    | _ => exact absurd rfl hne
  · cases hran with
    | resetBridge => exact .inr ⟨rfl, by_contra fun hkeep => hne (if_neg hkeep)⟩
    | triplet => exact .inl ⟨_, rfl⟩
    | _ => exact absurd rfl hne
  · cases hran with
    | resetBridge => exact .inl rfl
    | selectChannel => exact .inr ⟨_, rfl⟩
    | _ => exact absurd rfl hne
  · cases hran with
    | resetBridge | resetBus | setPointer | writeConfig | triplet | selectChannel => exact ⟨rfl, nofun⟩
    | broadcast hi => rcases hi with rfl | rfl <;> exact ⟨rfl, nofun⟩
    | _ => exact absurd rfl hne
  · obtain ⟨b, f, hrun⟩ := exec_client i s hclient
    obtain rfl : t = clientsRun b f s := Host.Outcome.next.inj (h.symm.trans hrun)
    exact ⟨clientsRun_pending .., clientsRun_responses ..⟩

/-- Settles O24: by the ways an instruction can run. -/
theorem noInstructionSetsBusy : Obligations.NoInstructionSetsBusy :=
  fun _ _ _ hcfg h => (exec_ran h).busy hcfg

end Sys2Proof.Machine
end

section
/-! SUPPORT. The step runs the instruction its bytes are: a host write that completes a host command (R132, R133), a DATA
byte that is a client command (R200, R224), a word placed as the next step (log 3); then what every host write answers. -/

namespace Sys2Proof.Machine

variable {s : State} {i : Instr}

/-! ### Client commands -/

/-- A broadcast is every client of the bus doing what the reference client does at the byte (R193, R224). -/
theorem clientsRun_eq_sendSelected {b c : Byte} {f : TempClient → TempClient × List Diag} (hb : b = c)
    (hf : ∀ t, t.data s.cfg.clientOpc b = f t) : clientsRun c f s = sendSelected b s := by
  obtain rfl := hb
  obtain rfl := funext hf
  rfl

/-- A byte that is a client command is that command at every client of the bus (R224, R293). -/
theorem exec_of_decodeClient {b : Byte} (h : decodeClient s.cfg.clientOpc b = some i) :
    exec i s = .next (sendSelected b s) := by
  simp only [decodeClient, ite_eq_iff, Option.some.injEq, reduceCtorEq, and_false, or_false] at h
  rcases h with ⟨hb, rfl⟩ | ⟨_, ⟨hb, rfl⟩ | ⟨_, ⟨hb, rfl⟩ | ⟨_, ⟨hb, rfl⟩ | ⟨_, ⟨hb, rfl⟩ | ⟨_, ⟨hb, rfl⟩ | ⟨_,
    ⟨hb, rfl⟩ | ⟨_, ⟨hb, rfl⟩ | ⟨_, ⟨hb, rfl⟩ | ⟨_, ⟨hb, rfl⟩ | ⟨_, hb, rfl⟩⟩⟩⟩⟩⟩⟩⟩⟩⟩
  all_goals refine congrArg _ (clientsRun_eq_sendSelected hb fun t => ?_)
  all_goals rw [TempClient.data]
  all_goals split_ifs
  all_goals (cases hb; rfl)

/-- An upstream DATA that is a client command runs it (R200, R224). -/
theorem step_client {b : Byte} {rest : List Event} (hinput : s.input = .upstreamData b :: rest)
    (h : decodeClient s.cfg.clientOpc b = some i) : step s = exec i { s with input := rest } :=
  (step_cons s _ rest hinput).trans (exec_of_decodeClient (s := { s with input := rest }) h).symm

/-! ### Host commands -/

/-- A payload that completes a pending command runs it (R133). -/
theorem payloadPhase_some {w : Byte} (h : decodePayload s.cfg.opc s.pending w = some i) :
    payloadPhase w s = exec i s := by
  simp [payloadPhase, h]

/-- A host write of the opcode of an instruction, or of the payload that completes one, is that instruction, busy or
not (R131 to R133). -/
theorem hostWrite_some {w : Byte} (h : (s.pending = 0x00#8 ∧ decodeOpcode s.cfg.opc w = some i) ∨
    (s.pending ≠ 0x00#8 ∧ decodePayload s.cfg.opc s.pending w = some i)) : hostWrite w s = exec i s := by
  have hhost : i.isHost = true := by
    rcases h with ⟨_, h⟩ | ⟨_, h⟩
    · exact decodeCommand_isHost h
    · exact isHost_of_hasPayload (decodePayload_some h).1
  rcases hostWrite_cases w s with ⟨hb, hw⟩ | ⟨_, hp, hw⟩ | ⟨_, hp, hw⟩
  · rw [hw, exec_busy hb hhost]
  · rcases h with ⟨_, h⟩ | ⟨hne, _⟩
    · rw [hw, opcodePhase_some h]
    · exact absurd hp hne
  · rcases h with ⟨hidle, _⟩ | ⟨_, h⟩
    · exact absurd hidle hp
    · rw [hw, payloadPhase_some h]

/-- A step whose host write completes an instruction runs it (R130; log 2, log 10). -/
theorem step_host {w : Byte} {rest : List Event} (hinput : s.input = .hostWrite w :: rest)
    (h : (s.pending = 0x00#8 ∧ decodeOpcode s.cfg.opc w = some i) ∨
      (s.pending ≠ 0x00#8 ∧ decodePayload s.cfg.opc s.pending w = some i)) :
    step s = exec i { s with input := rest, hostAccessed := true } :=
  (step_hostWrite hinput).trans (hostWrite_some (s := { s with input := rest, hostAccessed := true }) h)

/-- No pending F2 opcode is Idle: a legal opcode is not 0 (R104). -/
theorem ne_zero_of_decodePayload {op w : Byte} (hcfg : s.cfg.wellFormed = true)
    (h : decodePayload s.cfg.opc op w = some i) : op ≠ 0x00#8 := by
  obtain ⟨hsrp, hwcfg, howsb, howwb, howt, hchsl⟩ := Config.wellFormed_pending hcfg
  obtain ⟨-, hi⟩ := decodePayload_some h
  rcases hi with ⟨rfl, _⟩ | ⟨rfl, _⟩ | ⟨rfl, _⟩ | ⟨rfl, _⟩ | ⟨rfl, _⟩ | ⟨rfl, _⟩ <;> assumption

/-! ### What a host write answers -/

/-- Everything a host write that ends in a next state can be: the busy guard, an instruction the byte completes, a byte in
Idle that is no opcode, a payload under a PENDING that is no F2 opcode (R131 to R133, R144; log 5). -/
theorem hostWrite_ran {w : Byte} {t : State} (h : hostWrite w s = .next t) :
    (s.busy = true ∧ busyReject s = .next t) ∨
      (s.pending = 0x00#8 ∧ ∃ i, decodeOpcode s.cfg.opc w = some i ∧ Ran i s t) ∨
      (s.pending ≠ 0x00#8 ∧ ∃ i, decodePayload s.cfg.opc s.pending w = some i ∧ Ran i s t) ∨
      (s.pending = 0x00#8 ∧ ignoreOpcode w s = .next t) ∨ (s.pending ≠ 0x00#8 ∧ complete s = .next t) := by
  rcases hostWrite_cases w s with ⟨hb, hw⟩ | ⟨_, hp, hw⟩ | ⟨_, hp, hw⟩
  · exact .inl ⟨hb, hw.symm.trans h⟩
  · rw [hw, opcodePhase] at h
    split at h
    · next i hi => exact .inr (.inl ⟨hp, i, hi, exec_ran h⟩)
    · exact .inr (.inr (.inr (.inl ⟨hp, h⟩)))
  · rw [hw, payloadPhase] at h
    split at h
    · next i hi => exact .inr (.inr (.inl ⟨hp, i, hi, exec_ran h⟩))
    · exact .inr (.inr (.inr (.inr ⟨hp, h⟩)))

/-- A host write under a pending opcode leaves PENDING 0 (R131, R134). -/
theorem hostWrite_pending {w : Byte} {t : State} (h : hostWrite w s = .next t) (hp : s.pending ≠ 0x00#8) :
    t.pending = 0x00#8 := by
  rcases hostWrite_ran h with ⟨_, h⟩ | ⟨hidle, _⟩ | ⟨_, i, hi, hran⟩ | ⟨hidle, _⟩ | ⟨_, h⟩
  · exact Host.Outcome.next.inj h ▸ rfl
  · exact absurd hidle hp
  · exact hran.pending (decodePayload_some hi).1 hp
  · exact absurd hidle hp
  · exact Host.Outcome.next.inj h ▸ rfl

/-- A host write adds one outcome to the responses, and keeps the run (R147). -/
theorem hostWrite_responses {w : Byte} {t : State} (h : hostWrite w s = .next t) :
    (∃ o, t.responses = s.responses ++ [.outcome o]) ∧ t.input = s.input := by
  rcases hostWrite_ran h with ⟨_, h⟩ | ⟨_, i, hi, hran⟩ | ⟨_, i, hi, hran⟩ | ⟨_, h⟩ | ⟨_, h⟩
  · exact Host.Outcome.next.inj h ▸ ⟨⟨_, rfl⟩, rfl⟩
  · obtain ⟨_, _, _, hinput, _⟩ := hran.keeps
    exact ⟨hran.responses (decodeCommand_isHost hi), hinput⟩
  · obtain ⟨_, _, _, hinput, _⟩ := hran.keeps
    exact ⟨hran.responses (isHost_of_hasPayload (decodePayload_some hi).1), hinput⟩
  · exact Host.Outcome.next.inj h ▸ ⟨⟨_, rfl⟩, rfl⟩
  · exact Host.Outcome.next.inj h ▸ ⟨⟨_, rfl⟩, rfl⟩

/-! ### A word placed as the next step -/

/-- The bytes of a two-byte command the bridge has are placed with its opcode pending (log 3). -/
theorem placeWord_twoByte {nbits w : Nat}
    (h : decodeCommand s.cfg.opc (tableByte nbits w 0) (tableByte nbits w 1) = some i) (hp : i.hasPayload = true)
    (hwf : i.wellFormed s.cfg = true) :
    placeWord s nbits w =
      { s with pending := tableByte nbits w 0, input := .hostWrite (tableByte nbits w 1) :: s.input } := by
  simp [placeWord, h, hp, hwf]

/-- The byte of a one-byte command is placed in Idle (log 3). -/
theorem placeWord_oneByte {nbits w : Nat}
    (h : decodeCommand s.cfg.opc (tableByte nbits w 0) (tableByte nbits w 1) = some i) (hp : i.hasPayload = false) :
    placeWord s nbits w = { s with pending := 0x00#8, input := .hostWrite (tableByte nbits w 0) :: s.input } := by
  simp [placeWord, h, hp]

/-- The byte of a client command that is no host opcode is placed as an upstream DATA (log 3). -/
theorem placeWord_client {nbits w : Nat} (h : tableByte nbits w 0 ∉ s.cfg.opc.all)
    (hi : decodeClient s.cfg.clientOpc (tableByte nbits w 0) = some i) :
    placeWord s nbits w = { s with input := .upstreamData (tableByte nbits w 0) :: s.input } := by
  simp [placeWord, decodeCommand_none.2 h, hi]

/-! ### The obligations -/

/-- Settles O4: the opcode decodes to CHSL, which a 1-channel bridge does not have; its opcode phase is Unsupported. -/
theorem channelSelectOnOneChannelTakesNoPayload : Obligations.ChannelSelectOnOneChannelTakesNoPayload := by
  intro s rest bytes hcfg hone hbusy hidle hinput
  obtain ⟨-, hopc⟩ := Config.wellFormed_opc hcfg
  have hdecode : decodeOpcode s.cfg.opc s.cfg.opc.chsl = some (.chsl payloadToCome) := by
    obtain ⟨-, -, -, -, -, -, -, -, hchsl⟩ := decodeCommand_own hopc payloadToCome
    exact hchsl
  refine ⟨by simp [decode, hdecode, Instr.hasPayload, Instr.wellFormed, hone], ?_⟩
  calc step s = exec (.chsl payloadToCome) { s with input := rest, hostAccessed := true } :=
        step_host hinput (.inl ⟨hidle, hdecode⟩)
    _ = channelSelectOpcode { s with input := rest, hostAccessed := true } := exec_chsl_idle _ hbusy hidle
    _ = _ := channelSelectOpcode_one hone

/-- Settles O5: in each phase the byte completes the instruction; a busy bridge rejects both alike. -/
theorem stepRunsTheHostCommand : Obligations.StepRunsTheHostCommand :=
  fun _ _ _ _ hinput h => step_host hinput h

/-- Settles O6: the step broadcasts the byte, which is the command. -/
theorem stepRunsTheClientCommand : Obligations.StepRunsTheClientCommand :=
  fun _ _ _ _ hinput h => step_client hinput h

/-- Settles O7: by the cases of the DATA decode. -/
theorem broadcastPayloadRunsTheClientCommand : Obligations.BroadcastPayloadRunsTheClientCommand :=
  fun _ _ _ h => exec_of_decodeClient h

/-- Settles O8: the placed bytes decode to the instruction, which is how `placeWord` places it, and so the next step
completes it. -/
theorem placedInstructionRunsNext : Obligations.PlacedInstructionRunsNext := by
  intro s i nbits w hcfg hwf
  obtain ⟨-, hopc⟩ := Config.wellFormed_opc hcfg
  refine ⟨fun hp henc => ?_, fun hhost hp henc => ?_, fun hclient henc hnot => ?_⟩
  · rcases encode_host hopc (isHost_of_hasPayload hp) with ⟨hone, _⟩ | ⟨_, op, v, henc', hdec⟩
    · exact absurd (hone.symm.trans hp) Bool.false_ne_true
    · obtain ⟨rfl, rfl⟩ : op = tableByte nbits w 0 ∧ v = tableByte nbits w 1 := by simpa [henc] using henc'.symm
      have hpayload := decodePayload_of_decodeCommand hdec hp
      rw [State.withFetchWord, placeWord_twoByte hdec hp hwf]
      exact step_host rfl (.inr ⟨ne_zero_of_decodePayload hcfg hpayload, hpayload⟩)
  · rcases encode_host hopc hhost with ⟨_, op, henc', hdec⟩ | ⟨htwo, _⟩
    · obtain rfl : op = tableByte nbits w 0 := by simpa [henc] using henc'.symm
      rw [State.withFetchWord, placeWord_oneByte (hdec _) hp]
      exact step_host rfl (.inl ⟨rfl, hdec _⟩)
    · exact absurd (hp.symm.trans htwo) Bool.false_ne_true
  · obtain ⟨b, henc', hdec⟩ := encode_client (Config.wellFormed_clientOpc hcfg) hclient
    obtain rfl : b = tableByte nbits w 0 := by simpa [henc] using henc'.symm
    rw [State.withFetchWord, placeWord_client hnot hdec]
    exact step_client rfl hdec

/-- Settles O12: the step is a host write under a pending opcode. -/
theorem payloadWriteReturnsToIdle : Obligations.PayloadWriteReturnsToIdle := by
  intro s w rest hp hinput
  obtain ⟨t, ht⟩ := hostWrite_next w { s with input := rest, hostAccessed := true }
  exact ⟨t, (step_hostWrite hinput).trans ht, hostWrite_pending ht hp⟩

/-- Settles O13: the step is a host write, and every one ends in a next state with one outcome more. -/
theorem everyHostWriteReturnsOneOutcome : Obligations.EveryHostWriteReturnsOneOutcome := by
  intro s w rest hinput
  obtain ⟨t, ht⟩ := hostWrite_next w { s with input := rest, hostAccessed := true }
  obtain ⟨⟨o, ho⟩, hrest⟩ := hostWrite_responses ht
  exact ⟨t, o, (step_hostWrite hinput).trans ht, ho, hrest⟩

end Sys2Proof.Machine
end

section
/-! SUPPORT. The host read step (R170 to R185): the register each pointer code selects, the read of an unknown one, the
triplet step as registers and clients, and what a read keeps. -/

namespace Sys2Proof.Machine

variable {s : State}

/-! ### The register reads -/

/-- The configuration and channel codes select their own registers where the pointer codes are distinct (R12, R170). -/
theorem selectedRegister_own {p : PointerCodes} (h : p.all.Nodup) :
    selectedRegister p p.config = some .config ∧ selectedRegister p p.channel = some .channel := by
  have h' := List.nodup_reverse.2 h
  simp only [PointerCodes.all, List.reverse_cons, List.reverse_nil, List.nil_append, List.cons_append, List.nodup_cons,
    List.mem_cons, List.not_mem_nil, or_false, not_or] at h'
  obtain ⟨⟨hconfigChannel, hconfigRdata, hconfigStatus⟩, ⟨hchannelRdata, hchannelStatus⟩, -⟩ := h'
  exact ⟨by simp [selectedRegister, hconfigRdata, hconfigStatus],
    by simp [selectedRegister, hchannelRdata, hchannelStatus, Ne.symm hconfigChannel]⟩

/-- A pointer that is none of the four codes selects no register (R116). -/
theorem selectedRegister_unknown {p : PointerCodes} {ptr : Byte} (h : ptr ∉ p.all) : selectedRegister p ptr = none := by
  simp only [PointerCodes.all, List.mem_cons, List.not_mem_nil, or_false, not_or] at h
  simp [selectedRegister, h]

/-- The read-back code of channels 0 to 7 (R183). -/
theorem chanCode_of_lt {ch : Nat} (h : ch < 8) : chanCode ch = some (BitVec.ofNat 8 (0xB8 - 7 * ch)) := by
  interval_cases ch <;> rfl

/-- A host read under the configuration code returns CONFIG (R180). -/
theorem hostRead_config (hptrc : s.cfg.ptrc.all.Nodup) (h : s.ptr = s.cfg.ptrc.config) :
    hostRead s = s.returnByte s.config := by
  rw [hostRead, h, (selectedRegister_own hptrc).1]

/-- A host read under the channel code returns the read-back code of CHAN (R181, R183). -/
theorem hostRead_channel (hptrc : s.cfg.ptrc.all.Nodup) (h : s.ptr = s.cfg.ptrc.channel) (hchan : s.chan < 8) :
    hostRead s = s.returnByte (BitVec.ofNat 8 (0xB8 - 7 * s.chan)) := by
  rw [hostRead, h, (selectedRegister_own hptrc).2]
  simp only [readChannel, chanCode_of_lt hchan]

/-- A host read under an unknown pointer is a draw (R178). -/
theorem hostRead_unknown (h : s.ptr ∉ s.cfg.ptrc.all) : hostRead s = readUnknown s := by
  rw [hostRead, selectedRegister_unknown h]

/-- A host read that is not armed returns the register the pointer code selects (R171). -/
theorem hostRead_selected {p v : Byte} (hptrc : s.cfg.ptrc.all.Nodup) (harmed : s.armed = false) (hchan : s.chan < 8)
    (hptr : s.ptr = p)
    (hv : (p = s.cfg.ptrc.status ∧ v = s.status) ∨ (p = s.cfg.ptrc.rdata ∧ v = s.rdata) ∨
      (p = s.cfg.ptrc.config ∧ v = s.config) ∨
      (p = s.cfg.ptrc.channel ∧ v = BitVec.ofNat 8 (0xB8 - 7 * s.chan))) :
    hostRead s = s.returnByte v := by
  rcases hv with ⟨hp, rfl⟩ | ⟨hp, rfl⟩ | ⟨hp, rfl⟩ | ⟨hp, rfl⟩
  · exact hostRead_status_unarmed (hptr.trans hp) harmed
  · exact hostRead_rdata hptrc (hptr.trans hp)
  · exact hostRead_config hptrc (hptr.trans hp)
  · exact hostRead_channel hptrc (hptr.trans hp) hchan

/-! ### The triplet step -/

/-- The flags of the triplet step as bit masks (R36, R176). -/
theorem statusTriplet_eq (bit : Bool) (st : Byte) :
    statusTriplet bit st = (st &&& 0x3F#8) ||| (if bit then 0x80#8 else 0x40#8) := by
  refine BitVec.eq_of_getLsbD_eq fun j hj => ?_
  rw [getLsbD_statusTriplet, BitVec.getLsbD_or, BitVec.getLsbD_and]
  interval_cases j <;> cases bit <;> simp

/-- CURSOR advances modulo 8 (R46, R175). -/
theorem cursor_add_one (c : BitVec 3) : c + 1 = BitVec.ofNat 3 ((c.toNat + 1) % 8) :=
  BitVec.eq_of_toNat_eq (by simp)

/-- The whole triplet step (R173 to R177). -/
theorem tripletStep_eq (s : State) :
    tripletStep s = { s with
      clients := if s.cursor = 0#3 then (busRead s.chan s).1.clients else s.clients
      rdata := if s.cursor = 0#3 then (busRead s.chan s).2 else s.rdata
      cursor := s.cursor + 1
      status := statusTriplet
        ((if s.cursor = 0#3 then (busRead s.chan s).2 else s.rdata).getLsbD s.cursor.toNat) s.status
      armed := false } := by
  by_cases h : s.cursor = 0#3
  · rw [if_pos h, if_pos h, tripletStep, tripletRefill, if_pos h, latchByte_eq]
    rfl
  · rw [if_neg h, if_neg h, tripletStep, tripletRefill, if_neg h]
    rfl

/-- An armed read of the status register is a triplet step, and returns STATUS after it (R173, R177). -/
theorem hostRead_status_armed (hptr : s.ptr = s.cfg.ptrc.status) (harmed : s.armed = true) :
    hostRead s = (tripletStep s).returnByte (tripletStep s).status := by
  rw [hostRead, hptr, selectedRegister_status]
  exact if_pos harmed

/-- An armed read of the status register, with CURSOR counted modulo 8 and the flags as bit masks (R173 to R177). -/
theorem hostRead_status_armed_eq {x st : Byte} (hptr : s.ptr = s.cfg.ptrc.status) (harmed : s.armed = true)
    (hx : x = if s.cursor = 0#3 then (busRead s.chan s).2 else s.rdata)
    (hst : st = (s.status &&& 0x3F#8) ||| (if x.getLsbD s.cursor.toNat then 0x80#8 else 0x40#8)) :
    hostRead s = { s with
      clients := if s.cursor = 0#3 then (busRead s.chan s).1.clients else s.clients
      rdata := x, cursor := BitVec.ofNat 3 ((s.cursor.toNat + 1) % 8), status := st, armed := false
      responses := s.responses ++ [.byte st] } := by
  rw [hostRead_status_armed hptr harmed, tripletStep_eq, cursor_add_one, statusTriplet_eq, ← hx, ← hst]
  rfl

/-- `k + 1` triplet steps from CURSOR 0 have read one byte, and stand after its bit `k` (R174 to R176). -/
theorem tripletSteps_from_zero (h : s.cursor = 0#3) {k : Nat} (hk : k < 8) :
    (tripletStep^[k + 1] s).rdata = (busRead s.chan s).2 ∧
      (tripletStep^[k + 1] s).clients = (busRead s.chan s).1.clients ∧
      (tripletStep^[k + 1] s).cursor = BitVec.ofNat 3 (k + 1) ∧
      ∃ st, (tripletStep^[k + 1] s).status = statusTriplet ((busRead s.chan s).2.getLsbD k) st := by
  induction k with
  | zero =>
    rw [zero_add, Function.iterate_one, tripletStep_eq, if_pos h, if_pos h, h]
    exact ⟨rfl, rfl, rfl, _, rfl⟩
  | succ k ih =>
    obtain ⟨hrdata, hclients, hcursor, -⟩ := ih (by omega)
    have htoNat : (BitVec.ofNat 3 (k + 1)).toNat = k + 1 := by
      rw [BitVec.toNat_ofNat]
      omega
    have hne : (tripletStep^[k + 1] s).cursor ≠ 0#3 := by
      intro hzero
      have := congrArg BitVec.toNat (hcursor.symm.trans hzero)
      rw [htoNat] at this
      exact absurd this (Nat.succ_ne_zero k)
    rw [Function.iterate_succ_apply', tripletStep_eq, if_neg hne, if_neg hne, hrdata, hcursor, htoNat]
    exact ⟨rfl, hclients, (BitVec.ofNat_add (k + 1) 1).symm, _, rfl⟩

/-! ### What a host read keeps -/

/-- Everything a host read can be: a byte returned after at most a triplet step (only where armed), a diagnostic, a
draw (R170). -/
theorem hostRead_cases (s : State) :
    (∃ b, hostRead s = s.returnByte b) ∨
      (s.armed = true ∧ hostRead s = (tripletStep s).returnByte (tripletStep s).status) ∨
      hostRead s = (s.emit [.unknownChannel s.chan]).returnByte 0x00#8 ∨ hostRead s = readUnknown s := by
  unfold hostRead
  split
  · unfold readStatus
    split
    · next harmed => exact .inr (.inl ⟨harmed, rfl⟩)
    · exact .inl ⟨_, rfl⟩
  · exact .inl ⟨_, rfl⟩
  · exact .inl ⟨_, rfl⟩
  · unfold readChannel
    split
    · exact .inl ⟨_, rfl⟩
    · exact .inr (.inr (.inl rfl))
  · exact .inr (.inr (.inr rfl))

/-- A host read changes STATUS, RDATA, CURSOR, ARMED, clients, draws and the logs alone (R146, R170). -/
theorem hostRead_frame (s : State) :
    hostRead s = { s with
      status := (hostRead s).status, rdata := (hostRead s).rdata, cursor := (hostRead s).cursor
      armed := (hostRead s).armed, clients := (hostRead s).clients, draws := (hostRead s).draws
      diag := (hostRead s).diag, responses := (hostRead s).responses } := by
  rcases hostRead_cases s with ⟨b, h⟩ | ⟨_, h⟩ | h | h
  · rw [h]
    rfl
  · rw [h, tripletStep_eq]
    rfl
  · rw [h]
    rfl
  · rw [h]
    rfl

/-- A host read returns one byte (R170). -/
theorem hostRead_responses (s : State) : ∃ b, (hostRead s).responses = s.responses ++ [.byte b] := by
  rcases hostRead_cases s with ⟨b, h⟩ | ⟨_, h⟩ | h | h
  · exact ⟨b, by rw [h]; rfl⟩
  · exact ⟨(tripletStep s).status, by rw [h, tripletStep_eq]; rfl⟩
  · exact ⟨0x00#8, by rw [h]; rfl⟩
  · exact ⟨Config.draw s.draws, by rw [h]; rfl⟩

/-- A host read changes STATUS, RDATA, CURSOR and the clients only by a triplet step, which an armed read alone
performs (R172, R173). -/
theorem hostRead_registers (s : State) :
    ((hostRead s).status = s.status ∧ (hostRead s).rdata = s.rdata ∧ (hostRead s).cursor = s.cursor ∧
        (hostRead s).clients = s.clients) ∨
      (s.armed = true ∧ (∃ bit, (hostRead s).status = statusTriplet bit s.status) ∧
        ((hostRead s).clients = s.clients ∨ (hostRead s).clients = (busRead s.chan s).1.clients)) := by
  rcases hostRead_cases s with ⟨b, h⟩ | ⟨harmed, h⟩ | h | h
  · exact .inl (by rw [h]; exact ⟨rfl, rfl, rfl, rfl⟩)
  · rw [h, tripletStep_eq]
    exact .inr ⟨harmed, ⟨_, rfl⟩, (ite_eq_or_eq _ _ _).symm⟩
  · exact .inl (by rw [h]; exact ⟨rfl, rfl, rfl, rfl⟩)
  · exact .inl (by rw [h]; exact ⟨rfl, rfl, rfl, rfl⟩)

/-! ### The read pseudo-instruction -/

/-- A run whose first step answers a next state goes on from it (R94). -/
theorem run_succ {t : State} (h : step s = .next t) (k : Nat) :
    Host.Core.run Sys2Proof.core (k + 1) s = Host.Core.run Sys2Proof.core k t := by
  have hstep : Sys2Proof.core.step s = .next t := h
  simp only [Host.Core.run, hstep]

/-- The first access of `RDREG p`: SRP's opcode in Idle becomes pending (R119, R121). -/
theorem step_srp_opcode {rest : List Event} (hcfg : s.cfg.wellFormed = true) (hb : s.busy = false)
    (hp : s.pending = 0x00#8) (hinput : s.input = .hostWrite s.cfg.opc.srp :: rest) :
    step s = .next { s with
      input := rest, hostAccessed := true, pending := s.cfg.opc.srp
      responses := s.responses ++ [.outcome .ok] } := by
  rw [step_hostWrite hinput, hostWrite_idle (s := { s with input := rest, hostAccessed := true }) _ hb hp]
  exact opcodePhase_awaits (Config.wellFormed_opc hcfg).2 hb hp List.mem_cons_self

/-- The second access of `RDREG p`: SRP's payload becomes PTR (R121, R138). -/
theorem step_srp_payload {p : Byte} {rest : List Event} (hcfg : s.cfg.wellFormed = true) (hb : s.busy = false)
    (hp : s.pending = s.cfg.opc.srp) (hinput : s.input = .hostWrite p :: rest) :
    step s = .next { s with
      input := rest, hostAccessed := true, ptr := p, pending := 0x00#8
      responses := s.responses ++ [.outcome .ok] } := by
  obtain ⟨-, hopc⟩ := Config.wellFormed_opc hcfg
  have hdecode : decodePayload s.cfg.opc s.pending p = some (.srp p) := by
    obtain ⟨-, -, -, hsrp, -⟩ := decodeCommand_own hopc p
    exact decodePayload_of_decodeCommand (hp ▸ hsrp) rfl
  have hne := ne_zero_of_decodePayload hcfg hdecode
  exact (step_host hinput (.inr ⟨hne, hdecode⟩)).trans (exec_srp_pending p hb hne)

/-- The third access of `RDREG p`: the register `p` selects is returned (R121, R171). -/
theorem step_hostRead_selected {p v : Byte} {rest : List Event} (hcfg : s.cfg.wellFormed = true)
    (harmed : s.armed = false) (hchan : s.chan < 8) (hptr : s.ptr = p) (hinput : s.input = .hostRead :: rest)
    (hv : (p = s.cfg.ptrc.status ∧ v = s.status) ∨ (p = s.cfg.ptrc.rdata ∧ v = s.rdata) ∨
      (p = s.cfg.ptrc.config ∧ v = s.config) ∨
      (p = s.cfg.ptrc.channel ∧ v = BitVec.ofNat 8 (0xB8 - 7 * s.chan))) :
    step s = .next { s with input := rest, hostAccessed := true, responses := s.responses ++ [.byte v] } :=
  (step_hostRead hinput).trans (congrArg _ (hostRead_selected (s := { s with input := rest, hostAccessed := true })
    (Config.wellFormed_ptrc hcfg) harmed hchan hptr hv))

/-! ### The obligations -/

/-- Settles O26: the pointer selects CONFIG or the channel-select register, which the read returns. -/
theorem configAndChannelReadsReturnTheRegister : Obligations.ConfigAndChannelReadsReturnTheRegister := by
  intro s rest hcfg hinput
  have hptrc := Config.wellFormed_ptrc hcfg
  exact ⟨fun hptr => (step_hostRead hinput).trans (congrArg _ (hostRead_config hptrc hptr)),
    fun hptr hchan => (step_hostRead hinput).trans (congrArg _ (hostRead_channel hptrc hptr hchan))⟩

/-- Settles O27: the pointer selects no register. -/
theorem unknownPointerReadIsADraw : Obligations.UnknownPointerReadIsADraw :=
  fun _ _ hptr hinput => (step_hostRead hinput).trans (congrArg _ (hostRead_unknown hptr))

/-- Settles O28: the read is a triplet step, with a refill or without, and STATUS returned after it. -/
theorem armedStatusReadIsOneTripletStep : Obligations.ArmedStatusReadIsOneTripletStep := by
  rintro s b x st rest - hinput hptr harmed rfl hx hst
  exact (step_hostRead hinput).trans (congrArg _ (hostRead_status_armed_eq hptr harmed hx hst))

/-- Settles O29: the first step refills and the next seven do not; the flags after each are those of its bit. -/
theorem eightTripletStepsReadOneByte : Obligations.EightTripletStepsReadOneByte := by
  rintro s x hcursor rfl
  refine ⟨fun k hk => ?_, (tripletSteps_from_zero (k := 7) hcursor (by decide)).2.2.1⟩
  obtain ⟨hrdata, hclients, -, st, hstatus⟩ := tripletSteps_from_zero hcursor hk
  refine ⟨hrdata, ?_, ?_, hclients⟩
  · rw [State.dir, hstatus, getLsbD_statusTriplet, if_pos rfl]
  · rw [State.tsb, hstatus, getLsbD_statusTriplet, if_neg (by decide), if_pos rfl]

/-- Settles O30: the frame of a host read; only an armed one performs a triplet step. -/
theorem hostReadKeepsTheSequencer : Obligations.HostReadKeepsTheSequencer := by
  intro s rest hinput
  obtain ⟨b, hb⟩ := hostRead_responses { s with input := rest, hostAccessed := true }
  have hframe := hostRead_frame { s with input := rest, hostAccessed := true }
  refine ⟨_, b, step_hostRead hinput, hb, by rw [hframe], by rw [hframe], by rw [hframe], by rw [hframe],
    by rw [hframe], by rw [hframe], fun hunarmed => ?_⟩
  rcases hostRead_registers { s with input := rest, hostAccessed := true } with hkeep | ⟨harmed, _⟩
  · exact hkeep
  · exact absurd (hunarmed.symm.trans harmed) Bool.false_ne_true

/-- Settles O31: SRP's opcode becomes pending, its payload becomes PTR, and the read returns the register it selects. -/
theorem selectedRegisterIsReadBack : Obligations.SelectedRegisterIsReadBack := by
  intro s p v rest hcfg hbusy hidle harmed hchan hinput hv
  have hwrites : s.input = .hostWrite s.cfg.opc.srp :: .hostWrite p :: .hostRead :: rest := hinput
  calc Host.Core.run Sys2Proof.core 3 s
    _ = Host.Core.run Sys2Proof.core 2 { s with
          input := .hostWrite p :: .hostRead :: rest, hostAccessed := true, pending := s.cfg.opc.srp
          responses := s.responses ++ [.outcome .ok] } := run_succ (step_srp_opcode hcfg hbusy hidle hwrites) 2
    _ = Host.Core.run Sys2Proof.core 1 { s with
          input := .hostRead :: rest, hostAccessed := true, ptr := p, pending := 0x00#8
          responses := s.responses ++ [.outcome .ok] ++ [.outcome .ok] } :=
        run_succ (step_srp_payload (s := { s with
          input := .hostWrite p :: .hostRead :: rest, hostAccessed := true, pending := s.cfg.opc.srp
          responses := s.responses ++ [.outcome .ok] }) hcfg hbusy rfl rfl) 1
    _ = Host.Core.run Sys2Proof.core 0 { s with
          input := rest, hostAccessed := true, ptr := p, pending := 0x00#8
          responses := s.responses ++ [.outcome .ok] ++ [.outcome .ok] ++ [.byte v] } :=
        run_succ (step_hostRead_selected (s := { s with
          input := .hostRead :: rest, hostAccessed := true, ptr := p, pending := 0x00#8
          responses := s.responses ++ [.outcome .ok] ++ [.outcome .ok] }) hcfg harmed hchan rfl rfl hv) 0
    _ = _ := by
        rw [List.append_assoc, List.append_assoc, hidle]
        rfl

end Sys2Proof.Machine
end

section
/-! SUPPORT. The CRC-8 unit is linear (R211): one iteration is, so eight are, so a sequence is; and a byte whose CRC-8
is 0 is the crc it meets (R212). -/

namespace Sys2Proof.Machine

/-- The mask a bit selects is linear in the bit (R210). -/
theorem crcMask_xor (p q : Bool) (m : Byte) :
    (if (p ^^ q) = true then m else 0#8) = (if p = true then m else 0#8) ^^^ (if q = true then m else 0#8) := by
  cases p <;> cases q <;> simp

/-- One iteration is a shift and the mask that bit 0 selects (R210). -/
theorem crcBit_fst (c x : Byte) :
    (crcBit c x).1 = (c >>> 1) ^^^ (if (c ^^^ x).getLsbD 0 = true then 0x8C#8 else 0#8) := by
  unfold crcBit
  split
  · rfl
  · exact (BitVec.xor_zero).symm

/-- One iteration is linear (R211). -/
theorem crcBit_xor (c d x y : Byte) :
    crcBit (c ^^^ d) (x ^^^ y) = ((crcBit c x).1 ^^^ (crcBit d y).1, (crcBit c x).2 ^^^ (crcBit d y).2) := by
  refine Prod.ext ?_ (BitVec.ushiftRight_xor_distrib x y 1)
  have hbit : ((c ^^^ d) ^^^ (x ^^^ y)).getLsbD 0 = ((c ^^^ x).getLsbD 0 ^^ (d ^^^ y).getLsbD 0) := by
    rw [BitVec.xor_assoc, ← BitVec.xor_assoc d, BitVec.xor_comm d, BitVec.xor_assoc x, ← BitVec.xor_assoc,
      BitVec.getLsbD_xor]
  simp only [crcBit_fst, hbit, crcMask_xor, BitVec.ushiftRight_xor_distrib]
  ac_rfl

/-- Any number of iterations is linear (R211). -/
theorem crcBits_xor (n : Nat) (c d x y : Byte) : crcBits n (c ^^^ d) (x ^^^ y) = crcBits n c x ^^^ crcBits n d y := by
  induction n generalizing c d x y with
  | zero => rfl
  | succ n ih =>
    rw [crcBits, crcBit_xor]
    exact ih ..

/-- A sequence is linear in the crc it starts from and in its bytes (R211). -/
theorem crcFrom_xor {a b : List Byte} (h : a.length = b.length) (c d : Byte) :
    crcFrom (c ^^^ d) (List.zipWith (fun x y => x ^^^ y) a b) = crcFrom c a ^^^ crcFrom d b := by
  induction a generalizing b c d with
  | nil =>
    obtain rfl := List.eq_nil_of_length_eq_zero h.symm
    rfl
  | cons x xs ih =>
    obtain ⟨y, ys, rfl⟩ := List.exists_cons_of_length_eq_add_one h.symm
    rw [List.zipWith_cons_cons, crcFrom_cons, crcFrom_cons, crcFrom_cons, crcByte, crcBits_xor]
    exact ih (Nat.succ.inj h) ..

/-- A crc that meets itself is shifted out (R210). -/
theorem crcBits_self (n : Nat) (c : Byte) : crcBits n c c = c >>> n := by
  induction n generalizing c with
  | zero => exact (BitVec.ushiftRight_zero c).symm
  | succ n ih =>
    have hfst : (crcBit c c).1 = c >>> 1 := by simp [crcBit_fst]
    rw [crcBits, hfst, show (crcBit c c).2 = c >>> 1 from rfl, ih, ← BitVec.shiftRight_add, Nat.add_comm]

/-- One iteration with no input loses nothing: the mask sets bit 7, which the shift clears (R210). -/
theorem crcBit_zero_right {c : Byte} (h : (crcBit c 0#8).1 = 0#8) : c = 0#8 := by
  rw [crcBit_fst, BitVec.xor_zero] at h
  cases hbit : c.getLsbD 0 with
  | true =>
    have htop := congrArg (BitVec.getLsbD · 7) h
    simp [hbit] at htop
  | false =>
    rw [hbit, if_neg Bool.false_ne_true, BitVec.xor_zero] at h
    refine BitVec.eq_of_getLsbD_eq fun j _ => ?_
    cases j with
    | zero => rw [hbit, BitVec.getLsbD_zero]
    | succ j =>
      have hj := congrArg (BitVec.getLsbD · j) h
      simpa [BitVec.getLsbD_ushiftRight, Nat.add_comm] using hj

/-- Iterations with no input lose nothing (R210). -/
theorem crcBits_zero_right {n : Nat} {c : Byte} (h : crcBits n c 0#8 = 0#8) : c = 0#8 := by
  induction n generalizing c with
  | zero => exact h
  | succ n ih => exact crcBit_zero_right (ih h)

/-- The CRC-8 of a byte is 0 exactly when the byte is the crc it meets (R212). -/
theorem crcByte_eq_zero_iff (c x : Byte) : crcByte c x = 0x00#8 ↔ c = x := by
  have hself (x : Byte) : crcByte x x = 0#8 := by
    rw [crcByte, crcBits_self]
    exact BitVec.eq_of_toNat_eq (by simp [Nat.shiftRight_eq_div_pow]; omega)
  constructor
  · intro h
    have hsplit : crcByte c x = crcBits 8 (c ^^^ x) 0#8 := by
      have := crcBits_xor 8 (c ^^^ x) x 0#8 x
      rw [BitVec.xor_assoc, BitVec.xor_self, BitVec.xor_zero, BitVec.zero_xor] at this
      exact this.trans (by rw [show crcBits 8 x x = 0#8 from hself x, BitVec.xor_zero])
    exact BitVec.xor_eq_zero_iff.1 (crcBits_zero_right (hsplit.symm.trans h))
  · rintro rfl
    exact hself c

/-- Settles O41: the CRC-8 of the sequence with the code after it is that of the code from the crc before it. -/
theorem validatorIsZeroResidue : Obligations.ValidatorIsZeroResidue :=
  ⟨fun data c => by rw [crcValid_iff, crc8_concat, crcByte_eq_zero_iff],
    fun data => by rw [crc8_concat, crcByte_eq_zero_iff]⟩

/-- Settles O42: a sequence is linear, and the crc it starts from is 0. -/
theorem crcIsLinear : Obligations.CrcIsLinear :=
  fun _ _ h => crcFrom_xor h 0x00#8 0x00#8

end Sys2Proof.Machine
end

section
/-! SUPPORT. The bus without clients (R196) and with reference clients alone (R223); the busy bit as a mask (R93). -/

namespace Sys2Proof.Machine

variable {s : State}

/-- A channel without an entry, and one left unwired, has no clients (R196; D15). -/
theorem clientsAt_unwired {ch : Nat} (h : s.wiring[ch]? = none ∨ s.wiring[ch]? = some none) : s.clientsAt ch = [] := by
  rcases h with h | h <;> simp [State.clientsAt, State.busAt, h]

/-- A client replaced by itself is the client. -/
theorem State.putClient_same {k : Nat} {slot : ClientSlot} (hk : s.clients[k]? = some slot) :
    s.putClient k slot slot.dev = s := by
  simp only [putClient, set_of_getElem? hk]

/-- A RESET to reference clients changes nothing, and any of them answers it (R223; D31). -/
theorem fanOut_sendReset_temp {ks : List Nat} (h : ∀ k ∈ ks, s.isTempClient k = true) :
    fanOut Client.sendReset ks s = (s, !ks.isEmpty) := by
  induction ks with
  | nil => rfl
  | cons k ks ih =>
    obtain ⟨hk, hks⟩ := List.forall_mem_cons.1 h
    obtain ⟨t, bus, hslot⟩ := State.isTempClient_iff.1 hk
    have hsame : (s.putClient k ⟨.temp t, bus⟩ (.temp t)).emit [] = s := by
      rw [State.emit_nil]
      exact State.putClient_same hslot
    rw [fanOut_cons_some hslot]
    simp only [Client.sendReset, hsame, ih hks]
    rfl

/-- Writing 1WB writes bit 0 (R36, R93). -/
theorem statusBusy_eq (v : Bool) (st : Byte) : statusBusy v st = if v then st ||| 0x01#8 else st &&& 0xFE#8 := rfl

/-- Settles O34: a RESET to each client of the list in turn, none of which it changes. -/
theorem referenceClientsTellPresence : Obligations.ReferenceClientsTellPresence :=
  fun _ _ h => fanOut_sendReset_temp h

/-- Settles O36: the list of clients is empty. -/
theorem unwiredChannelActsAsAnEmptyBus : Obligations.UnwiredChannelActsAsAnEmptyBus := by
  intro s ch b h
  rw [busReset, busWrite, busRead, clientsAt_unwired h]
  exact ⟨rfl, rfl, rfl⟩

/-- Settles O39: the step writes bit 0 of STATUS. -/
theorem forceBusyWritesTheBusyBit : Obligations.ForceBusyWritesTheBusyBit := by
  intro s v rest hinput
  rw [step_cons s _ rest hinput, ← statusBusy_eq]
  rfl

end Sys2Proof.Machine
end

section
/-! SUPPORT. The reference client's scratchpad after CONVERT_T (R229), its live read queue (R233, R234; D29), and the
serial number string (R231; D28). -/

namespace Sys2Proof.Machine

variable {t : TempClient}

/-! ### CONVERT_T -/

/-- The temperature word is split into two bytes, low byte first (R229). -/
theorem word_bytes (v : BitVec 16) : (v.extractLsb' 0 8).toNat + 256 * (v.extractLsb' 8 8).toNat = v.toNat := by
  simp only [BitVec.extractLsb'_toNat, Nat.shiftRight_eq_div_pow]
  omega

/-- The word is the whole degrees times 16, modulo 65536 (R229; D30). -/
theorem temperatureWord_toNat (temp : BitVec 32) :
    (temperatureWord temp).toNat = (temp.toInt.tdiv 100 * 16 % 65536).toNat := by
  rw [temperatureWord, BitVec.toNat_ofInt]
  rfl

/-- The first eight bytes of a scratchpad (R222). -/
theorem scratchpad_take (sp : Vector Byte 9) :
    sp.toList.take 8 = [sp[0], sp[1], sp[2], sp[3], sp[4], sp[5], sp[6], sp[7]] := by
  refine List.ext_getElem (by simp) fun j hj _ => ?_
  have hj8 : j < 8 := by simpa using hj
  interval_cases j <;> simp

/-- The scratchpad after CONVERT_T: the word, bytes 2 to 7 kept, the CRC-8 of bytes 0 to 7 (R229). -/
theorem convertT_sp (t : TempClient) :
    t.convertT.sp[0] = (temperatureWord t.temp).extractLsb' 0 8 ∧
      t.convertT.sp[1] = (temperatureWord t.temp).extractLsb' 8 8 ∧
      (∀ j : Fin 9, 2 ≤ j.val → j.val ≤ 7 → t.convertT.sp[j] = t.sp[j]) ∧
      t.convertT.sp[8] = crc8 (t.convertT.sp.toList.take 8) := by
  refine ⟨?_, ?_, fun j hlo hhi => ?_, ?_⟩
  · simp [TempClient.convertT, spWithChecksum, spWithTemperature]
  · simp [TempClient.convertT, spWithChecksum, spWithTemperature]
  · have h0 : 0 ≠ j.val := by omega
    have h1 : 1 ≠ j.val := by omega
    have h8 : 8 ≠ j.val := by omega
    simp [TempClient.convertT, spWithChecksum, spWithTemperature, h0, h1, h8]
  · simp [TempClient.convertT, spWithChecksum, scratchpad_take]

/-- The scratchpad bytes that are not converted anew stay as a first CONVERT_T left them (R229). -/
theorem convertT_convertT_sp (t : TempClient) : t.convertT.convertT.sp = t.convertT.sp := by
  obtain ⟨hlow, hhigh, hkept, hcrc⟩ := convertT_sp t
  obtain ⟨hlow', hhigh', hkept', hcrc'⟩ := convertT_sp t.convertT
  have hbytes (j : Nat) (hj : j < 8) : t.convertT.convertT.sp[j] = t.convertT.sp[j] := by
    obtain rfl | rfl | h2 : j = 0 ∨ j = 1 ∨ 2 ≤ j := by omega
    · rw [hlow, hlow']
      rfl
    · rw [hhigh, hhigh']
      rfl
    · exact hkept' ⟨j, by omega⟩ h2 (Nat.le_of_lt_succ hj)
  refine Vector.ext fun j hj => ?_
  obtain hlt | rfl : j < 8 ∨ j = 8 := by omega
  · exact hbytes j hlt
  · simp only [hcrc, hcrc', scratchpad_take, hbytes, Nat.reduceLT]

/-- CONVERT_T again changes nothing more (R229). -/
theorem convertT_convertT (t : TempClient) : t.convertT.convertT = t.convertT := by
  exact congrArg (fun sp => { t.convertT with sp := sp }) (convertT_convertT_sp t)

/-! ### The read queue -/

/-- `n` calls of `recv` with `n` bytes unread advance the cursor by `n` (R233). -/
theorem recv_iterate {n : Nat} (h : n ≤ t.q.rem) :
    (fun u : TempClient => u.recv.2.1)^[n] t =
      { t with q := { buf := t.q.buf, pos := t.q.pos + n, rem := t.q.rem - n } } := by
  induction n with
  | zero => rfl
  | succ n ih =>
    rw [Function.iterate_succ_apply', ih (by omega), TempClient.recv, if_pos (by simp only; omega)]
    simp only [Nat.add_assoc, Nat.sub_sub]

/-- The call of `recv` after `n` others returns byte `n` from the cursor (R233). -/
theorem recv_after_iterate {n : Nat} {x : Byte} (h : n < t.q.rem)
    (hx : (t.bufferBytes t.q.buf)[t.q.pos + n]? = some x) :
    ((fun u : TempClient => u.recv.2.1)^[n] t).recv.1 = x := by
  rw [recv_iterate h.le, TempClient.recv_of_pos (Nat.sub_pos_of_lt h) hx]

/-- With every byte read there is no data left (R232). -/
theorem hasData_after_all (t : TempClient) :
    (Client.temp ((fun u : TempClient => u.recv.2.1)^[t.q.rem] t)).hasData = false := by
  rw [recv_iterate le_rfl, Client.hasData]
  exact decide_eq_false (Nat.sub_self t.q.rem ▸ Nat.lt_irrefl 0)

/-- The bytes of a buffer as a list. -/
theorem vector_toList_getElem? {n j : Nat} (v : Vector Byte n) (h : j < n) : v.toList[j]? = some v[j] := by
  simp [h]

/-! ### Serial numbers -/

/-- A hex digit is below 16. -/
theorem hexDigit_lt {c : Char} {n : Nat} (h : hexDigit c = some n) : n < 16 := by
  unfold hexDigit at h
  simp only [Char.reduceToNat] at h
  split_ifs at h with h1 h2 h3 <;> (obtain rfl := Option.some.inj h; omega)

/-- A pair of hex digits is their byte, the first the high nibble (R231; D28). -/
theorem hexPair_some {a b : Char} {x : Byte} (h : hexPair a b = some x) :
    ∃ m n, hexDigit a = some m ∧ hexDigit b = some n ∧ x.toNat = 16 * m + n := by
  unfold hexPair at h
  split at h
  · next m n hm hn =>
    obtain rfl := Option.some.inj h
    have hlt := hexDigit_lt hm
    have hlt' := hexDigit_lt hn
    refine ⟨m, n, hm, hn, ?_⟩
    rw [BitVec.toNat_ofNat]
    omega
  · cases h

/-- Two characters are a pair exactly when both are hex digits. -/
theorem hexPair_isSome (a b : Char) :
    (hexPair a b).isSome = true ↔ (hexDigit a).isSome = true ∧ (hexDigit b).isSome = true := by
  unfold hexPair
  cases hexDigit a <;> cases hexDigit b <;> simp

/-- A string of pairs, by its first pair. -/
theorem hexBytes_cons_some {a b : Char} {rest : List Char} {bs : List Byte} :
    hexBytes (a :: b :: rest) = some bs ↔
      ∃ x xs, hexPair a b = some x ∧ hexBytes rest = some xs ∧ bs = x :: xs := by
  rw [hexBytes]
  cases hexPair a b <;> cases hexBytes rest <;> simp [eq_comm]

/-- A string is a string of pairs exactly when its length is even and each character is a hex digit. -/
theorem hexBytes_isSome : ∀ text : List Char,
    (hexBytes text).isSome = true ↔ text.length % 2 = 0 ∧ ∀ c ∈ text, (hexDigit c).isSome = true
  | [] => by simp [hexBytes]
  | [c] => by simp [hexBytes]
  | a :: b :: rest => by
    have ih := hexBytes_isSome rest
    have hpair := hexPair_isSome a b
    have hsplit : (hexBytes (a :: b :: rest)).isSome = true ↔
        (hexPair a b).isSome = true ∧ (hexBytes rest).isSome = true := by
      rw [hexBytes]
      cases hexPair a b <;> cases hexBytes rest <;> simp
    rw [hsplit, hpair, ih]
    simp only [List.length_cons, List.forall_mem_cons, Nat.add_assoc, Nat.reduceAdd, Nat.add_mod_right]
    tauto

/-- Each byte of a string of pairs is the pair at its place (R231; D28). -/
theorem hexBytes_pairs : ∀ {text : List Char} {bs : List Byte}, hexBytes text = some bs →
    text.length = 2 * bs.length ∧ ∀ (j : Nat) (x : Byte), bs[j]? = some x →
      ∃ a b, text[2 * j]? = some a ∧ text[2 * j + 1]? = some b ∧ hexPair a b = some x
  | [], bs, h => by
    obtain rfl : [] = bs := Option.some.inj h
    exact ⟨rfl, nofun⟩
  | [_], _, h => nomatch h
  | a :: b :: rest, bs, h => by
    obtain ⟨y, ys, hy, hys, rfl⟩ := hexBytes_cons_some.1 h
    obtain ⟨hlen, ih⟩ := hexBytes_pairs hys
    refine ⟨by simp only [List.length_cons, hlen]; omega, fun j x hx => ?_⟩
    cases j with
    | zero =>
      obtain rfl := Option.some.inj hx
      exact ⟨a, b, rfl, rfl, hy⟩
    | succ j => exact ih j x hx

/-- A serial parses to the eight bytes of its eight pairs (R231). -/
theorem parseSerial_some {text : List Char} {rom : Vector Byte 8} (h : parseSerial text = some rom) :
    hexBytes text = some rom.toList := by
  unfold parseSerial at h
  split at h
  · next bs hbs =>
    split at h
    · obtain rfl := Option.some.inj h
      simpa using hbs
    · cases h
  · cases h

/-- A string of eight pairs parses. -/
theorem parseSerial_isSome {text : List Char} {bs : List Byte} (h : hexBytes text = some bs) (hlen : bs.length = 8) :
    (parseSerial text).isSome = true := by
  simp [parseSerial, h, hlen]

/-! ### The configuration steps -/

section Configure

variable {s : State} {k : Nat}

/-- A serial that parses replaces the ROM of a reference client (R231). -/
theorem configureSerial_temp {text : List Char} {rom : Vector Byte 8} {bus : Option Nat}
    (hk : s.clients[k]? = some { dev := .temp t, bus := bus }) (h : parseSerial text = some rom) :
    configureSerial k text s =
      .next ((s.putClient k { dev := .temp t, bus := bus } (.temp { t with rom := rom })).respond
        (.configured true)) := by
  simp only [configureSerial, hk, h]

/-- A serial that does not parse is a reported failure, whatever the client (R231; log 20). -/
theorem configureSerial_rejected {text : List Char} {slot : ClientSlot} (hk : s.clients[k]? = some slot)
    (h : parseSerial text = none) : configureSerial k text s = .next (s.respond (.configured false)) := by
  obtain ⟨dev, bus⟩ := slot
  cases dev <;> simp only [configureSerial, hk, h]

/-- A temperature replaces the TEMP of a reference client (R231). -/
theorem configureTemperature_temp (v : BitVec 32) {bus : Option Nat}
    (hk : s.clients[k]? = some { dev := .temp t, bus := bus }) :
    configureTemperature k v s =
      .next ((s.putClient k { dev := .temp t, bus := bus } (.temp { t with temp := v })).respond
        (.configured true)) := by
  simp only [configureTemperature, hk]

end Configure

/-! ### The obligations -/

/-- Settles O46: CONVERT_T is a command without diagnostics, and doing it again changes nothing more; the scratchpad it
leaves holds the word and its checksum. -/
theorem convertTemperatureResult : Obligations.ConvertTemperatureResult := by
  intro s
  refine ⟨_, congrArg _ (clientsRun_quiet s.cfg.clientOpc.convertT TempClient.convertT s), fun k t bus hbus hk => ?_,
    clientsRun_othersReceive _ _ [] s⟩
  obtain ⟨hlow, hhigh, hkept, hcrc⟩ := convertT_sp t
  refine ⟨t.convertT.sp, clientsRun_temp_on_bus _ _ [] convertT_convertT hbus hk, ?_, hkept, ?_⟩
  · rw [hlow, hhigh, word_bytes, temperatureWord_toNat]
  · rw [hcrc, scratchpad_take]

/-- Settles O48: the cursor advances by one at each `recv`, and CONVERT_T changes the buffer under it. -/
theorem queuedBytesComeBackInOrder : Obligations.QueuedBytesComeBackInOrder := by
  rintro t next rfl
  refine ⟨fun j => recv_after_iterate j.isLt ?_, hasData_after_all t.searchRom, fun j => recv_after_iterate j.isLt ?_,
    fun j m h => ?_, hasData_after_all t.readScratchpad⟩
  · exact (congrArg (t.rom.toList[·]?) (Nat.zero_add j.val)).trans (vector_toList_getElem? t.rom j.isLt)
  · exact (congrArg (t.sp.toList[·]?) (Nat.zero_add j.val)).trans (vector_toList_getElem? t.sp j.isLt)
  · rw [recv_iterate (t := t.readScratchpad) (n := j) (Nat.le_of_lt (Nat.lt_of_le_of_lt (Nat.le_add_right j m) h))]
    refine recv_after_iterate (Nat.lt_sub_iff_add_lt'.2 h) ?_
    exact (congrArg (fun n => t.convertT.sp.toList[n + m]?) (Nat.zero_add j)).trans
      (vector_toList_getElem? t.convertT.sp h)

/-- Settles O49: a serial parses exactly if it is eight pairs of hex digits, and each pair is the byte at its place; the
step reports a string that does not parse. -/
theorem serialIsSixteenHexDigits : Obligations.SerialIsSixteenHexDigits := by
  refine ⟨fun text => ⟨fun h => ?_, fun ⟨hlen, hdigits⟩ => ?_⟩, fun text rom h j => ?_,
    fun s k text rest slot hinput hk hnone => ?_⟩
  · obtain ⟨rom, hrom⟩ := Option.isSome_iff_exists.1 h
    have hbytes := parseSerial_some hrom
    obtain ⟨hlen, -⟩ := hexBytes_pairs hbytes
    obtain ⟨-, hdigits⟩ := (hexBytes_isSome text).1 (hbytes ▸ rfl)
    exact ⟨by simpa using hlen, hdigits⟩
  · obtain ⟨bs, hbs⟩ := Option.isSome_iff_exists.1 ((hexBytes_isSome text).2 ⟨by rw [hlen], hdigits⟩)
    obtain ⟨hpairs, -⟩ := hexBytes_pairs hbs
    exact parseSerial_isSome hbs (by omega)
  · obtain ⟨-, hpairs⟩ := hexBytes_pairs (parseSerial_some h)
    obtain ⟨a, b, ha, hb, hx⟩ := hpairs j rom[j] (vector_toList_getElem? rom j.isLt)
    obtain ⟨m, n, hm, hn, hvalue⟩ := hexPair_some hx
    exact ⟨a, b, m, n, ha, hb, hm, hn, hvalue⟩
  · exact (step_cons s _ rest hinput).trans (configureSerial_rejected hk hnone)

/-- Settles O50: each configuration step writes its field of the reference client. -/
theorem configurationInputsWriteTheClient : Obligations.ConfigurationInputsWriteTheClient := by
  intro s k t bus rest hk
  exact ⟨fun text rom hinput hrom => (step_cons s _ rest hinput).trans (configureSerial_temp hk hrom),
    fun v hinput => (step_cons s _ rest hinput).trans (configureTemperature_temp v hk)⟩

end Sys2Proof.Machine
end

section
/-! SUPPORT. The platform's steps (R92, R191, R197, R231, R285): what each answers, then everything a step of the platform
can do to the state, said once (`PlatformRan`), and every step of the machine by its agent. -/

namespace Sys2Proof.Machine

variable {s t : State}

/-! ### Each step -/

/-- A bus that exists is one a channel can be wired to. -/
theorem State.hasBus_of_lt {bus : Option Nat} (h : ∀ b : Nat, bus = some b → b < s.buses.length) :
    s.hasBus bus = true := by
  cases bus with
  | none => rfl
  | some b => exact decide_eq_true (h b rfl)

/-- A channel is wired before the first host access, or to the bus it is wired to already (R285; D39). -/
theorem wireChannel_allowed {ch : Nat} {bus : Option Nat} (hch : ch < s.wiring.length) (hbus : s.hasBus bus = true)
    (h : s.hostAccessed = true → s.wiring[ch]? = some bus) :
    wireChannel ch bus s = .next { s with wiring := s.wiring.set ch bus } := by
  have hno : ¬(s.hostAccessed && decide (s.wiring[ch]? ≠ some bus)) = true := by
    simpa using h
  rw [wireChannel, if_neg hno, if_pos (by simp [hch, hbus])]

/-- A channel wired to the bus it is wired to already stays as it is (R285; D39). -/
theorem wireChannel_same {ch : Nat} {bus : Option Nat} (hch : ch < s.wiring.length) (hbus : s.hasBus bus = true)
    (h : s.wiring[ch]? = some bus) : wireChannel ch bus s = .next s := by
  rw [wireChannel_allowed hch hbus fun _ => h, set_of_getElem? h]

/-- A channel is not rewired after the first host access (R285; D39). -/
theorem wireChannel_refused {ch : Nat} {bus : Option Nat} (hboot : s.hostAccessed = true)
    (h : s.wiring[ch]? ≠ some bus) : wireChannel ch bus s = .refused .wiringChangeAfterBoot :=
  if_pos (by rw [hboot, decide_eq_true h]; rfl)

/-- A channel that was wired changes what its entry says, after boot to what it said (R285; D39). -/
theorem wireChannel_next {ch : Nat} {bus : Option Nat} (h : wireChannel ch bus s = .next t) :
    (s.hostAccessed = true → s.wiring[ch]? = some bus) ∧ t = { s with wiring := s.wiring.set ch bus } := by
  unfold wireChannel at h
  split_ifs at h with hchange
  exact ⟨by simpa using hchange, (Host.Outcome.next.inj h).symm⟩

/-- The master of a bus that exists (R197). -/
theorem State.masterOf_some {b : Nat} {bs : Bus} (hb : s.buses[b]? = some bs) : s.masterOf b = bs.master := by
  simp only [masterOf, hb]

/-- A master is set before the first host access, or to the master the bus has already (R197; D39). -/
theorem assignMaster_allowed {b : Nat} {m : Option Master} {bs : Bus} (hb : s.buses[b]? = some bs)
    (h : s.hostAccessed = true → bs.master = m) :
    assignMaster b m s = .next { s with buses := s.buses.set b { bs with master := m } } := by
  have hno : ¬(s.hostAccessed && decide (s.masterOf b ≠ m)) = true := by
    simpa [State.masterOf_some hb] using h
  rw [assignMaster, if_neg hno]
  simp only [hb]

/-- A master set to the one the bus has stays as it is (R197; D39). -/
theorem assignMaster_same {b : Nat} {m : Option Master} {bs : Bus} (hb : s.buses[b]? = some bs) (h : bs.master = m) :
    assignMaster b m s = .next s := by
  have hsame : s.buses.set b { bs with master := m } = s.buses := set_of_getElem? (h ▸ hb)
  rw [assignMaster_allowed hb fun _ => h, hsame]

/-- A master is not changed after the first host access (R197; D39). -/
theorem assignMaster_refused {b : Nat} {m : Option Master} {bs : Bus} (hb : s.buses[b]? = some bs)
    (hboot : s.hostAccessed = true) (h : bs.master ≠ m) :
    assignMaster b m s = .refused .masterChangeAfterBoot :=
  if_pos (by rw [State.masterOf_some hb, hboot, decide_eq_true h]; rfl)

/-- A master that was set is that of a bus that exists, after boot the one it had (R197; D39). -/
theorem assignMaster_next {b : Nat} {m : Option Master} (h : assignMaster b m s = .next t) :
    ∃ bs, s.buses[b]? = some bs ∧ (s.hostAccessed = true → bs.master = m) ∧
      t = { s with buses := s.buses.set b { bs with master := m } } := by
  unfold assignMaster at h
  split_ifs at h with hchange
  split at h
  · next bs hb =>
    exact ⟨bs, hb, by simpa [State.masterOf_some hb] using hchange, (Host.Outcome.next.inj h).symm⟩
  · cases h

/-- A client on no bus or on this bus is appended to its list (R191; log 9). -/
theorem attachClient_allowed {b k : Nat} {bs : Bus} {slot : ClientSlot} (hb : s.buses[b]? = some bs)
    (hk : s.clients[k]? = some slot) (h : slot.bus = none ∨ slot.bus = some b) :
    attachClient (some b) k s = .next { s with
      buses := s.buses.set b { bs with clients := bs.clients ++ [k] }
      clients := s.clients.set k { slot with bus := some b } } := by
  simp only [attachClient, hb, hk, if_pos h]

/-- A client attached again to its own bus is appended once more (R191; log 9). -/
theorem attachClient_again {b k : Nat} {bs : Bus} {slot : ClientSlot} (hb : s.buses[b]? = some bs)
    (hk : s.clients[k]? = some slot) (h : slot.bus = some b) :
    attachClient (some b) k s =
      .next { s with buses := s.buses.set b { bs with clients := bs.clients ++ [k] } } := by
  have hsame : s.clients.set k { slot with bus := some b } = s.clients := set_of_getElem? (h ▸ hk)
  rw [attachClient_allowed hb hk (.inr h), hsame]

/-- A client on another bus is refused (R191; D39). -/
theorem attachClient_refused {b k other : Nat} {bs : Bus} {slot : ClientSlot} (hb : s.buses[b]? = some bs)
    (hk : s.clients[k]? = some slot) (h : slot.bus = some other) (hne : other ≠ b) :
    attachClient (some b) k s = .refused .clientOnAnotherBus := by
  simp [attachClient, hb, hk, h, hne]

/-- An attach that was not refused did nothing, or appended a client on no bus or on this bus (R191). -/
theorem attachClient_next {bus : Option Nat} {k : Nat} (h : attachClient bus k s = .next t) :
    t = s ∨ ∃ b bs slot, s.buses[b]? = some bs ∧ s.clients[k]? = some slot ∧
      (slot.bus = none ∨ slot.bus = some b) ∧
      t = { s with buses := s.buses.set b { bs with clients := bs.clients ++ [k] }
                   clients := s.clients.set k { slot with bus := some b } } := by
  unfold attachClient at h
  split at h
  · exact .inl (Host.Outcome.next.inj h).symm
  · next b =>
    split at h
    · exact .inl (Host.Outcome.next.inj h).symm
    · cases h
    · next bs slot hb hk =>
      split_ifs at h with hbus
      exact .inr ⟨b, bs, slot, hb, hk, hbus, (Host.Outcome.next.inj h).symm⟩

/-- A client in the list of the bus is taken out of it (R191; log 9). -/
theorem detachClient_member {b k : Nat} {bs : Bus} {slot : ClientSlot} (hb : s.buses[b]? = some bs)
    (hk : s.clients[k]? = some slot) (h : k ∈ bs.clients) :
    detachClient b k s =
      { s with buses := s.buses.set b { bs with clients := bs.clients.filter (fun j => decide (j ≠ k)) }
               clients := s.clients.set k { slot with bus := none } }.respond (.detached true) := by
  simp only [detachClient, hb, hk, if_pos h]

/-- A client that is not in the list of the bus is not removed (R191). -/
theorem detachClient_absent {b k : Nat} {bs : Bus} {slot : ClientSlot} (hb : s.buses[b]? = some bs)
    (hk : s.clients[k]? = some slot) (h : k ∉ bs.clients) :
    detachClient b k s = s.respond (.detached false) := by
  simp only [detachClient, hb, hk, if_neg h]

/-- Every answer of a detach (R191). -/
theorem detachClient_cases (b k : Nat) (s : State) :
    detachClient b k s = s.respond (.detached false) ∨
      ∃ bs slot, s.buses[b]? = some bs ∧ s.clients[k]? = some slot ∧ k ∈ bs.clients ∧
        detachClient b k s =
          { s with buses := s.buses.set b { bs with clients := bs.clients.filter (fun j => decide (j ≠ k)) }
                   clients := s.clients.set k { slot with bus := none } }.respond (.detached true) := by
  unfold detachClient
  split
  · next bs slot hb hk =>
    split_ifs with hmem
    · exact .inr ⟨bs, slot, hb, hk, hmem, rfl⟩
    · exact .inl rfl
  · exact .inl rfl

/-- A configuration input that was not refused failed, or changed a reference client without its read queue (R231). -/
theorem configureSerial_next {k : Nat} {text : List Char} (h : configureSerial k text s = .next t) :
    t = s.respond (.configured false) ∨ ∃ slot tc rom, s.clients[k]? = some slot ∧ slot.dev = .temp tc ∧
      t = (s.putClient k slot (.temp { tc with rom := rom })).respond (.configured true) := by
  unfold configureSerial at h
  split at h
  · cases h
  · next slot hk =>
    split at h
    · next tc rom hdev _ => exact .inr ⟨slot, tc, rom, hk, hdev, (Host.Outcome.next.inj h).symm⟩
    all_goals exact .inl (Host.Outcome.next.inj h).symm

/-- A temperature that was not refused failed, or changed a reference client without its read queue (R231). -/
theorem configureTemperature_next {k : Nat} {v : BitVec 32} (h : configureTemperature k v s = .next t) :
    t = s.respond (.configured false) ∨ ∃ slot tc, s.clients[k]? = some slot ∧ slot.dev = .temp tc ∧
      t = (s.putClient k slot (.temp { tc with temp := v })).respond (.configured true) := by
  unfold configureTemperature at h
  split at h
  · cases h
  · next slot hk =>
    split at h
    · next tc hdev => exact .inr ⟨slot, tc, hk, hdev, (Host.Outcome.next.inj h).symm⟩
    all_goals exact .inl (Host.Outcome.next.inj h).symm

/-! ### Every step of the platform -/

/-- `PlatformRan s t`: the ways a step of the platform takes `s` to `t`. -/
inductive PlatformRan (s : State) : State → Prop
  /-- An attach to a null bus (R191). -/
  | nothing : PlatformRan s s
  /-- A master read, a detach of a client that is not in the list, a configuration input not taken. -/
  | answered (r : Response) : PlatformRan s (s.respond r)
  /-- A client created (R222; log 8). -/
  | created (c : Client) (hc : c = .temp TempClient.fresh ∨ ∀ t, c ≠ .temp t) : PlatformRan s (createClient c s)
  /-- A channel wired (R285). -/
  | wired (ch : Nat) (bus : Option Nat) (h : s.hostAccessed = true → s.wiring[ch]? = some bus) :
      PlatformRan s { s with wiring := s.wiring.set ch bus }
  /-- A master set (R197). -/
  | mastered {b : Nat} {bs : Bus} {m : Option Master} (hb : s.buses[b]? = some bs)
      (h : s.hostAccessed = true → bs.master = m) :
      PlatformRan s { s with buses := s.buses.set b { bs with master := m } }
  /-- A client attached (R191). -/
  | attached {b k : Nat} {bs : Bus} {slot : ClientSlot} (hb : s.buses[b]? = some bs) (hk : s.clients[k]? = some slot)
      (h : slot.bus = none ∨ slot.bus = some b) :
      PlatformRan s { s with buses := s.buses.set b { bs with clients := bs.clients ++ [k] }
                             clients := s.clients.set k { slot with bus := some b } }
  /-- A client detached (R191). -/
  | detached {b k : Nat} {bs : Bus} {slot : ClientSlot} (hb : s.buses[b]? = some bs) (hk : s.clients[k]? = some slot)
      (h : k ∈ bs.clients) :
      PlatformRan s ({ s with buses := s.buses.set b { bs with clients := bs.clients.filter (fun j => decide (j ≠ k)) }
                              clients := s.clients.set k { slot with bus := none } }.respond (.detached true))
  /-- A reference client configured (R231). -/
  | configured {k : Nat} {slot : ClientSlot} {tc tc' : TempClient} (hk : s.clients[k]? = some slot)
      (hdev : slot.dev = .temp tc) (hq : tc'.q = tc.q) :
      PlatformRan s ((s.putClient k slot (.temp tc')).respond (.configured true))

/-- `EventRan e s t`: the ways event `e` takes `s` to `t`, by the agent whose step it is (R90). -/
inductive EventRan : Event → State → State → Prop
  /-- The host writes (R130). -/
  | hostWrite {w : Byte} {s t : State} (h : hostWrite w s.accessed = .next t) : EventRan (.hostWrite w) s t
  /-- The host reads (R170). -/
  | hostRead {s : State} : EventRan .hostRead s (hostRead s.accessed)
  /-- The test harness (R93). -/
  | forceBusy {v : Bool} {s : State} : EventRan (.forceBusy v) s (forceBusy v s)
  /-- An upstream RESET (R199). -/
  | upstreamReset {s : State} : EventRan .upstreamReset s (upstreamReset s)
  /-- An upstream DATA (R200). -/
  | upstreamData {b : Byte} {s : State} : EventRan (.upstreamData b) s (sendSelected b s)
  /-- The platform. -/
  | platform {e : Event} {s t : State} (h : PlatformRan s t) : EventRan e s t

/-- An event that answers a next state ran in one of the ways of `EventRan`. -/
theorem runEvent_ran {e : Event} (h : runEvent e s = .next t) : EventRan e s t := by
  have hran {u : State} (hu : (.next u : Result) = .next t) (hp : EventRan e s u) : EventRan e s t :=
    Host.Outcome.next.inj hu ▸ hp
  cases e with
  | hostWrite w => exact .hostWrite h
  | hostRead => exact hran h .hostRead
  | forceBusy v => exact hran h .forceBusy
  | upstreamReset => exact hran h .upstreamReset
  | upstreamData b => exact hran h .upstreamData
  | wire ch bus =>
    obtain ⟨hboot, rfl⟩ := wireChannel_next h
    exact .platform (.wired ch bus hboot)
  | setMaster bus m =>
    obtain ⟨bs, hb, hboot, rfl⟩ := assignMaster_next h
    exact .platform (.mastered hb hboot)
  | getMaster bus => exact hran h (.platform (.answered _))
  | newTempClient => exact hran h (.platform (.created _ (.inl rfl)))
  | newQueueClient q => exact hran h (.platform (.created _ (.inr nofun)))
  | newOtherClient kind => exact hran h (.platform (.created _ (.inr nofun)))
  | attach bus k =>
    rcases attachClient_next h with rfl | ⟨b, bs, slot, hb, hk, hbus, rfl⟩
    · exact .platform .nothing
    · exact .platform (.attached hb hk hbus)
  | detach bus k =>
    rcases detachClient_cases bus k s with hd | ⟨bs, slot, hb, hk, hmem, hd⟩
    · exact hran h (.platform (hd ▸ .answered _))
    · exact hran h (.platform (hd ▸ .detached hb hk hmem))
  | setSerial k text =>
    rcases configureSerial_next h with rfl | ⟨slot, tc, rom, hk, hdev, rfl⟩
    · exact .platform (.answered _)
    · exact .platform (.configured hk hdev rfl)
  | setTemperature k v =>
    rcases configureTemperature_next h with rfl | ⟨slot, tc, hk, hdev, rfl⟩
    · exact .platform (.answered _)
    · exact .platform (.configured hk hdev rfl)

/-- A step that answers a next state waited, or ran the next event on the state without it (log 2). -/
theorem step_ran (h : step s = .next t) :
    (s.input = [] ∧ t = s) ∨ ∃ e rest, s.input = e :: rest ∧ EventRan e { s with input := rest } t := by
  rcases step_cases s with ⟨hnil, hs⟩ | ⟨e, rest, hcons, hs⟩
  · exact .inl ⟨hnil, Host.Outcome.next.inj (h.symm.trans hs)⟩
  · exact .inr ⟨e, rest, hcons, runEvent_ran (hs.symm.trans h)⟩

/-! ### What the steps keep -/

/-- The platform keeps the parameters, STATUS and the host-access mark (R92). -/
theorem PlatformRan.keeps (h : PlatformRan s t) :
    t.cfg = s.cfg ∧ t.status = s.status ∧ t.hostAccessed = s.hostAccessed := by
  cases h <;> exact ⟨rfl, rfl, rfl⟩

/-- A bus replaced by one with the same master. -/
theorem map_master_set {bs : List Bus} {b : Nat} {x y : Bus} (hb : bs[b]? = some x) (hxy : y.master = x.master) :
    (bs.set b y).map Bus.master = bs.map Bus.master := by
  rw [List.map_set, hxy]
  exact set_of_getElem? (by rw [List.getElem?_map, hb, Option.map_some])

/-- After the first host access the platform keeps the wiring and every master (R197, R285; D39). -/
theorem PlatformRan.boot (h : PlatformRan s t) (hboot : s.hostAccessed = true) :
    t.wiring = s.wiring ∧ t.buses.map Bus.master = s.buses.map Bus.master := by
  cases h with
  | nothing => exact ⟨rfl, rfl⟩
  | answered r => exact ⟨rfl, rfl⟩
  | created c => exact ⟨rfl, rfl⟩
  | wired ch bus h => exact ⟨set_of_getElem? (h hboot), rfl⟩
  | mastered hb h => exact ⟨rfl, map_master_set hb (h hboot).symm⟩
  | attached hb => exact ⟨rfl, map_master_set hb rfl⟩
  | detached hb => exact ⟨rfl, map_master_set hb rfl⟩
  | configured => exact ⟨rfl, rfl⟩

/-- A host write keeps the parameters, the host-access mark, the wiring and the buses (R145). -/
theorem hostWrite_keeps {w : Byte} (h : hostWrite w s = .next t) :
    t.cfg = s.cfg ∧ t.hostAccessed = s.hostAccessed ∧ t.wiring = s.wiring ∧ t.buses = s.buses := by
  rcases hostWrite_ran h with ⟨_, h⟩ | ⟨_, i, _, hran⟩ | ⟨_, i, _, hran⟩ | ⟨_, h⟩ | ⟨_, h⟩
  · exact Host.Outcome.next.inj h ▸ ⟨rfl, rfl, rfl, rfl⟩
  · obtain ⟨hbuses, hwiring, hcfg, -, -, haccess⟩ := hran.keeps
    exact ⟨hcfg, haccess, hwiring, hbuses⟩
  · obtain ⟨hbuses, hwiring, hcfg, -, -, haccess⟩ := hran.keeps
    exact ⟨hcfg, haccess, hwiring, hbuses⟩
  · exact Host.Outcome.next.inj h ▸ ⟨rfl, rfl, rfl, rfl⟩
  · exact Host.Outcome.next.inj h ▸ ⟨rfl, rfl, rfl, rfl⟩

/-- No event changes a parameter; after the first host access none changes the wiring, a master or the mark (D39). -/
theorem EventRan.boot {e : Event} (h : EventRan e s t) :
    t.cfg = s.cfg ∧ (s.hostAccessed = true → t.hostAccessed = true ∧ t.wiring = s.wiring ∧
      t.buses.map Bus.master = s.buses.map Bus.master) := by
  cases h with
  | hostWrite h =>
    obtain ⟨hcfg, haccess, hwiring, hbuses⟩ := hostWrite_keeps h
    exact ⟨hcfg, fun _ => ⟨haccess, hwiring, congrArg _ hbuses⟩⟩
  | hostRead =>
    rw [hostRead_frame]
    exact ⟨rfl, fun _ => ⟨rfl, rfl, rfl⟩⟩
  | forceBusy => exact ⟨rfl, fun h => ⟨h, rfl, rfl⟩⟩
  | upstreamReset => exact ⟨rfl, fun h => ⟨h, rfl, rfl⟩⟩
  | upstreamData =>
    rw [sendSelected_eq]
    exact ⟨rfl, fun h => ⟨h, rfl, rfl⟩⟩
  | platform h =>
    obtain ⟨hcfg, -, haccess⟩ := h.keeps
    exact ⟨hcfg, fun hboot => ⟨haccess.trans hboot, h.boot hboot⟩⟩

/-- Only `ForceBusy(0)` clears 1WB: a host write is rejected, and no other step writes bit 0 (R131, R294; D14). -/
theorem EventRan.busy {e : Event} (h : EventRan e s t) (he : e ≠ .forceBusy false) (hb : s.busy = true) :
    t.busy = true := by
  cases h with
  | hostWrite h =>
    have ht := (hostWrite_busy (s := s.accessed) _ hb).symm.trans h
    exact Host.Outcome.next.inj ht ▸ hb
  | hostRead =>
    rcases hostRead_registers s.accessed with ⟨hstatus, -⟩ | ⟨-, ⟨bit, hstatus⟩, -⟩
    · rw [State.busy, hstatus]
      exact hb
    · rw [State.busy, hstatus, getLsbD_statusTriplet]
      exact hb
  | @forceBusy v =>
    cases v with
    | false => exact absurd rfl he
    | true => exact getLsbD_statusBusy true s.status 0
  | upstreamReset => exact (getLsbD_statusPpd true s.status 0).trans hb
  | upstreamData =>
    rw [sendSelected_eq]
    exact hb
  | platform h =>
    rw [State.busy, h.keeps.2.1]
    exact hb

/-! ### The obligations -/

/-- Settles O40: by the agents of a step. -/
theorem forcedBusySticks : Obligations.ForcedBusySticks := by
  intro s t e rest hinput he hbusy h
  rw [step_cons s e rest hinput] at h
  exact (runEvent_ran h).busy he hbusy

/-- Settles O51: the branches of attach; a client already on this bus keeps its back-reference as it is. -/
theorem attachAppendsOrIsRefused : Obligations.AttachAppendsOrIsRefused := by
  intro s b k bs slot rest hk
  exact ⟨fun hinput hb hbus => (step_cons s _ rest hinput).trans (attachClient_allowed hb hk (.inl hbus)),
    fun hinput hb hbus => (step_cons s _ rest hinput).trans (attachClient_again hb hk hbus),
    fun hinput => step_cons s _ rest hinput,
    fun other hinput hb hbus hne => (step_cons s _ rest hinput).trans (attachClient_refused hb hk hbus hne)⟩

/-- Settles O52: the branches of detach; the list left is the list without the client. -/
theorem detachRemovesOrAnswersFalse : Obligations.DetachRemovesOrAnswersFalse := by
  intro s b k bs slot rest hinput hb hk
  refine ⟨fun hmem => ⟨bs.clients.filter (fun j => decide (j ≠ k)), by simp, fun j hj => List.count_filter (by simpa),
    List.filter_sublist, ?_⟩, fun hmem => ?_⟩
  · exact (step_cons s _ rest hinput).trans (congrArg Host.Outcome.next (detachClient_member hb hk hmem))
  · exact (step_cons s _ rest hinput).trans (congrArg Host.Outcome.next (detachClient_absent hb hk hmem))

/-- Settles O53: the branches of `setMaster`; a master set to itself changes nothing. -/
theorem masterIsSetOnlyAtBoot : Obligations.MasterIsSetOnlyAtBoot := by
  intro s b m bs rest hinput hb
  refine ⟨fun hboot => (step_cons s _ rest hinput).trans (assignMaster_allowed hb fun h => ?_),
    fun hboot hne => (step_cons s _ rest hinput).trans (assignMaster_refused hb hboot hne),
    fun _ heq => (step_cons s _ rest hinput).trans (assignMaster_same hb heq)⟩
  exact absurd (hboot.symm.trans h) Bool.false_ne_true

/-- Settles O59: the branches of the wiring step; an entry set to itself changes nothing. -/
theorem wiringIsSetOnlyAtBoot : Obligations.WiringIsSetOnlyAtBoot := by
  intro s ch bus rest hinput hch hbus
  have hexists : s.hasBus bus = true := State.hasBus_of_lt hbus
  refine ⟨fun hboot => (step_cons s _ rest hinput).trans (wireChannel_allowed hch hexists fun h => ?_),
    fun hboot hne => (step_cons s _ rest hinput).trans (wireChannel_refused hboot hne),
    fun _ heq => (step_cons s _ rest hinput).trans (wireChannel_same hch hexists heq)⟩
  exact absurd (hboot.symm.trans h) Bool.false_ne_true

/-- Settles O54: by the agents of a step; the first host access is not read. -/
theorem bootSettingsAreFixedAfterBoot : Obligations.BootSettingsAreFixedAfterBoot := by
  intro s t h
  rcases step_ran h with ⟨-, rfl⟩ | ⟨e, rest, -, hran⟩
  · exact ⟨rfl, fun hboot => ⟨hboot, rfl, rfl⟩⟩
  · exact hran.boot

end Sys2Proof.Machine
end

section
/-! SUPPORT. The invariant (R32, R38 to R42, R48, R50, R190, R222) is kept by every step: what each kind of update of the
state must respect, then the invariant after every instruction, every host access and every other event. -/

namespace Sys2Proof.Machine

variable {s t : State} {i : Instr}

/-! ### The list of a bus and the back-reference of a client -/

/-- Client `k` is in the list of bus `b` (R190). -/
def listed (buses : List Bus) (b k : Nat) : Prop := ∃ bs, buses[b]? = some bs ∧ k ∈ bs.clients

/-- Client `k` refers back to bus `b` (R191, R221). -/
def refersTo (clients : List ClientSlot) (k b : Nat) : Prop := ∃ slot, clients[k]? = some slot ∧ slot.bus = some b

/-- The attachments agree when the lists and the back-references do. -/
theorem attachmentsAgree_iff : s.attachmentsAgree ↔ ∀ b k, listed s.buses b k ↔ refersTo s.clients k b := Iff.rfl

/-- Who a bus that exists lists. -/
theorem listed_iff {buses : List Bus} {b k : Nat} {bs : Bus} (hb : buses[b]? = some bs) :
    listed buses b k ↔ k ∈ bs.clients := by
  simp [listed, hb]

/-- Which bus a client that exists refers to. -/
theorem refersTo_iff {clients : List ClientSlot} {k b : Nat} {slot : ClientSlot} (hk : clients[k]? = some slot) :
    refersTo clients k b ↔ slot.bus = some b := by
  simp [refersTo, hk]

/-- A bus replaced lists what its new list holds, and every other bus what it listed. -/
theorem listed_set {buses : List Bus} {b b' k : Nat} {bs bs' : Bus} (hb : buses[b]? = some bs) :
    listed (buses.set b bs') b' k ↔ if b = b' then k ∈ bs'.clients else listed buses b' k := by
  obtain ⟨hlt, -⟩ := List.getElem?_eq_some_iff.1 hb
  unfold listed
  split
  · next h =>
    subst h
    simp [List.getElem?_set_self hlt]
  · next h => rw [List.getElem?_set_ne h]

/-- A bus whose master is set lists what it listed. -/
theorem listed_set_master {buses : List Bus} {b b' k : Nat} {bs : Bus} {m : Option Master} (hb : buses[b]? = some bs) :
    listed (buses.set b { bs with master := m }) b' k ↔ listed buses b' k := by
  rw [listed_set hb]
  split
  · next h =>
    subst h
    exact (listed_iff hb).symm
  · exact Iff.rfl

/-- A client replaced refers to its new bus, and every other client to the bus it referred to. -/
theorem refersTo_set {clients : List ClientSlot} {k k' b : Nat} {slot slot' : ClientSlot} (hk : clients[k]? = some slot) :
    refersTo (clients.set k slot') k' b ↔ if k = k' then slot'.bus = some b else refersTo clients k' b := by
  obtain ⟨hlt, -⟩ := List.getElem?_eq_some_iff.1 hk
  unfold refersTo
  split
  · next h =>
    subst h
    simp [List.getElem?_set_self hlt]
  · next h => rw [List.getElem?_set_ne h]

/-- The back-references decide who refers to a bus. -/
theorem refersTo_congr {cs ds : List ClientSlot} (h : cs.map ClientSlot.bus = ds.map ClientSlot.bus) (k b : Nat) :
    refersTo cs k b ↔ refersTo ds k b := by
  have hget := congrArg (·[k]?) h
  simp only [List.getElem?_map] at hget
  have hrefers (l : List ClientSlot) : refersTo l k b ↔ (l[k]?).map ClientSlot.bus = some (some b) :=
    Option.map_eq_some_iff.symm
  rw [hrefers, hrefers, hget]

/-- A client on no bus appended refers to none. -/
theorem refersTo_append {clients : List ClientSlot} {slot : ClientSlot} (h : slot.bus = none) (k b : Nat) :
    refersTo (clients ++ [slot]) k b ↔ refersTo clients k b := by
  unfold refersTo
  rcases Nat.lt_trichotomy k clients.length with hlt | rfl | hgt
  · rw [List.getElem?_append_left hlt]
  · simp [h]
  · simp [List.getElem?_eq_none hgt.le, List.getElem?_append_right hgt.le, Nat.sub_ne_zero_of_lt hgt]

/-- Attaching keeps the agreement: the client is on no other bus (R190, R191). -/
theorem attachmentsAgree_attach {b k : Nat} {bs : Bus} {slot : ClientSlot} (hagree : s.attachmentsAgree)
    (hb : s.buses[b]? = some bs) (hk : s.clients[k]? = some slot) (h : slot.bus = none ∨ slot.bus = some b) :
    State.attachmentsAgree { s with buses := s.buses.set b { bs with clients := bs.clients ++ [k] }
                                    clients := s.clients.set k { slot with bus := some b } } := by
  refine attachmentsAgree_iff.2 fun b' k' => ?_
  rw [listed_set hb, refersTo_set hk, attachmentsAgree_iff.1 hagree b' k']
  by_cases hbus : b = b'
  · subst hbus
    by_cases hclient : k = k'
    · simp [hclient]
    · rw [if_pos rfl, if_neg hclient, ← attachmentsAgree_iff.1 hagree, listed_iff hb]
      simp [Ne.symm hclient]
  · by_cases hclient : k = k'
    · subst hclient
      rw [if_neg hbus, if_pos rfl, refersTo_iff hk]
      rcases h with h | h <;> simp [h, hbus]
    · rw [if_neg hbus, if_neg hclient]

/-- Detaching keeps the agreement: the client is in the list of no other bus (R190, R191). -/
theorem attachmentsAgree_detach {b k : Nat} {bs : Bus} {slot : ClientSlot} (hagree : s.attachmentsAgree)
    (hb : s.buses[b]? = some bs) (hk : s.clients[k]? = some slot) (h : k ∈ bs.clients) :
    State.attachmentsAgree
      { s with buses := s.buses.set b { bs with clients := bs.clients.filter (fun j => decide (j ≠ k)) }
               clients := s.clients.set k { slot with bus := none } } := by
  have hslot : slot.bus = some b := (refersTo_iff hk).1 ((attachmentsAgree_iff.1 hagree b k).1 ((listed_iff hb).2 h))
  refine attachmentsAgree_iff.2 fun b' k' => ?_
  rw [listed_set hb, refersTo_set hk, attachmentsAgree_iff.1 hagree b' k']
  by_cases hbus : b = b'
  · subst hbus
    by_cases hclient : k = k'
    · simp [hclient]
    · rw [if_pos rfl, if_neg hclient, ← attachmentsAgree_iff.1 hagree, listed_iff hb]
      simp [Ne.symm hclient]
  · by_cases hclient : k = k'
    · subst hclient
      rw [if_neg hbus, if_pos rfl, refersTo_iff hk]
      simp [hslot, hbus]
    · rw [if_neg hbus, if_neg hclient]

/-! ### Read cursors -/

/-- A client's read cursor, where it has one, is inside its buffer (R222). -/
def Client.cursorInside : Client → Prop
  | .temp t => t.cursorInside
  | .queued _ => True
  | .other _ => True

/-- The read cursors of a state are inside when each client's is. -/
theorem cursorsInside_iff : s.cursorsInside ↔ ∀ slot ∈ s.clients, Client.cursorInside slot.dev := by
  constructor
  · intro h slot hmem
    obtain ⟨k, hk⟩ := List.getElem?_of_mem hmem
    cases hdev : slot.dev with
    | temp t => exact h k slot t hk hdev
    | queued q => trivial
    | other o => trivial
  · intro h k slot t hk hdev
    have hin := h slot (List.mem_of_getElem? hk)
    rwa [hdev] at hin

/-- The read cursor of a client that exists is inside. -/
theorem cursorsInside_getElem? (h : s.cursorsInside) {k : Nat} {slot : ClientSlot} (hk : s.clients[k]? = some slot) :
    Client.cursorInside slot.dev :=
  cursorsInside_iff.1 h slot (List.mem_of_getElem? hk)

/-- A buffer's length is the same in every client (R222). -/
theorem bufferBytes_length (t t' : TempClient) (b : Buffer) : (t.bufferBytes b).length = (t'.bufferBytes b).length := by
  cases b with
  | rom => exact t.rom.size_toArray.trans t'.rom.size_toArray.symm
  | sp => exact t.sp.size_toArray.trans t'.sp.size_toArray.symm
  | pwr => rfl

/-- Whether the cursor is inside depends on the cursor alone. -/
theorem cursorInside_congr {t t' : TempClient} (h : t'.q = t.q) (hin : t.cursorInside) : t'.cursorInside := by
  rw [TempClient.cursorInside, h, bufferBytes_length t' t]
  exact hin

/-- A DATA byte leaves a reference client's cursor at the start of a buffer, or where it was (R224 to R230). -/
theorem cursorInside_data (o : ClientOpcodes) (b : Byte) {t : TempClient} (h : t.cursorInside) :
    (t.data o b).1.cursorInside := by
  unfold TempClient.data
  split_ifs
  · exact t.rom.size_toArray.ge
  · exact h
  · exact le_rfl
  · exact cursorInside_congr (t := t) rfl h
  · exact t.sp.size_toArray.ge
  · exact h

/-- A DATA byte keeps a client's cursor inside. -/
theorem cursorInside_sendData (o : ClientOpcodes) (b : Byte) {c : Client} (h : Client.cursorInside c) :
    Client.cursorInside (c.sendData o b).client := by
  cases c with
  | temp t => exact cursorInside_data o b h
  | queued q => trivial
  | other o => trivial

/-- A RESET keeps a client's cursor inside. -/
theorem cursorInside_sendReset {c : Client} (h : Client.cursorInside c) : Client.cursorInside c.sendReset.client := by
  cases c with
  | temp t => exact h
  | queued q => trivial
  | other o => trivial

/-- A `recv` moves one byte from the unread to the read (R233). -/
theorem cursorInside_recv {c : Client} (h : Client.cursorInside c) : Client.cursorInside c.recv.2.1 := by
  cases c with
  | temp t =>
    have hin : t.q.pos + t.q.rem ≤ (t.bufferBytes t.q.buf).length := h
    change (t.recv.2.1).cursorInside
    unfold TempClient.recv
    split
    · next hrem =>
      refine le_trans (le_of_eq ?_) (hin.trans (bufferBytes_length t _ _).le)
      change t.q.pos + 1 + (t.q.rem - 1) = t.q.pos + t.q.rem
      omega
    · exact h
  | queued q => trivial
  | other o => trivial

/-- A client replaced by one whose cursor is inside. -/
theorem cursorsInside_set {k : Nat} {slot : ClientSlot} (h : s.cursorsInside) (hslot : Client.cursorInside slot.dev) :
    State.cursorsInside { s with clients := s.clients.set k slot } := by
  refine cursorsInside_iff.2 fun slot' hmem => ?_
  rcases List.mem_or_eq_of_mem_set hmem with hmem | rfl
  · exact cursorsInside_iff.1 h slot' hmem
  · exact hslot

/-- A client appended whose cursor is inside. -/
theorem cursorsInside_append {slot : ClientSlot} (h : s.cursorsInside) (hslot : Client.cursorInside slot.dev) :
    State.cursorsInside { s with clients := s.clients ++ [slot] } := by
  refine cursorsInside_iff.2 fun slot' hmem => ?_
  rcases List.mem_append.1 hmem with hmem | hmem
  · exact cursorsInside_iff.1 h slot' hmem
  · rw [List.mem_singleton.1 hmem]
    exact hslot

/-- A client as the platform creates it has nothing to read yet, or no cursor (R222). -/
theorem cursorInside_created {c : Client} (hc : c = .temp TempClient.fresh ∨ ∀ t, c ≠ .temp t) :
    Client.cursorInside c := by
  cases c with
  | temp t =>
    obtain rfl : t = TempClient.fresh := by simpa using hc
    exact Nat.zero_le _
  | queued q => trivial
  | other o => trivial

/-- A message that keeps each client's cursor inside keeps them all (R192, R193). -/
theorem cursorsInside_fanOut {send : Client → ClientReply}
    (hsend : ∀ c, Client.cursorInside c → Client.cursorInside (send c).client) (ks : List Nat) (h : s.cursorsInside) :
    (fanOut send ks s).1.cursorsInside := by
  induction ks generalizing s with
  | nil => exact h
  | cons k ks ih =>
    cases hk : s.clients[k]? with
    | none =>
      rw [fanOut_cons_none hk]
      exact ih h
    | some slot =>
      rw [fanOut_cons_some hk]
      exact ih (cursorsInside_set h (hsend _ (cursorsInside_getElem? h hk)))

/-- A read-back keeps every cursor inside (R194). -/
theorem cursorsInside_readFirst (ks : List Nat) (h : s.cursorsInside) : (readFirst ks s).1.cursorsInside := by
  induction ks with
  | nil => exact h
  | cons k ks ih =>
    cases hdata : s.clientHasData k with
    | false => rwa [readFirst_cons_silent hdata]
    | true =>
      obtain ⟨slot, hk, hslot⟩ := State.clientHasData_iff.1 hdata
      rw [readFirst_cons_answers hk hslot]
      exact cursorsInside_set h (cursorInside_recv (cursorsInside_getElem? h hk))

/-! ### The invariant under each kind of update -/

/-- Clients replaced on the same buses, their cursors inside. -/
theorem State.Inv.withClients {cs : List ClientSlot} {ds : List Diag} (h : s.Inv)
    (hbus : cs.map ClientSlot.bus = s.clients.map ClientSlot.bus)
    (hcursors : State.cursorsInside { s with clients := cs, diag := ds }) :
    State.Inv { s with clients := cs, diag := ds } :=
  { h with
    attachments := fun b k => (h.attachments b k).trans (refersTo_congr hbus k b).symm
    cursors := hcursors }

/-- PENDING in Idle (R32). -/
theorem State.Inv.idle (h : s.Inv) : State.Inv { s with pending := 0x00#8 } :=
  { h with pendingLegal := by simp [State.pendingLegal] }

/-- STATUS with bits 1 to 5 as they were (R38 to R42). -/
theorem State.Inv.withStatus {st : Byte} (h : s.Inv) (hst : ∀ j, 1 ≤ j → j ≤ 5 → st.getLsbD j = s.status.getLsbD j) :
    State.Inv { s with status := st } :=
  { h with
    resetBits := fun j hlo hhi => (hst j (by omega) hhi).trans (h.resetBits j hlo hhi)
    ppdSticky := fun hclear => (hst 1 le_rfl (by decide)).trans (h.ppdSticky hclear) }

/-- STATUS with PPD set where nothing may clear it, bits 2 to 5 as they were (R38). -/
theorem State.Inv.withPpd {st : Byte} (h : s.Inv) (hst : ∀ j, j ≠ 1 → st.getLsbD j = s.status.getLsbD j)
    (hppd : s.cfg.ppdClearOnAbsent = false → st.getLsbD 1 = true) : State.Inv { s with status := st } :=
  { h with
    resetBits := fun j hlo hhi => (hst j (by omega)).trans (h.resetBits j hlo hhi)
    ppdSticky := hppd }

/-- A run with other events to come. -/
theorem State.Inv.withInput {es : List Event} (h : s.Inv) : State.Inv { s with input := es } := { h with }

/-- A host access marked. -/
theorem State.Inv.withAccess (h : s.Inv) : s.accessed.Inv := { h with }

/-- An agent answered. -/
theorem State.Inv.withResponse (h : s.Inv) (r : Response) : (s.respond r).Inv := { h with }

/-! ### The invariant after every step -/

/-- A byte broadcast keeps the invariant (R193). -/
theorem State.Inv.afterBusWrite (h : s.Inv) (b : Byte) :
    State.Inv { s with clients := (busWrite s.chan b s).1.clients, diag := (busWrite s.chan b s).1.diag } :=
  h.withClients (fanOut_bus _ _ s) (cursorsInside_fanOut (fun _ => cursorInside_sendData _ b) _ h.cursors)

/-- A RESET of the bus keeps the invariant (R192). -/
theorem State.Inv.afterBusReset (h : s.Inv) : State.Inv { s with clients := (busReset s.chan s).1.clients } :=
  h.withClients (fanOut_bus _ _ s) (cursorsInside_fanOut (fun _ => cursorInside_sendReset) _ h.cursors)

/-- A read-back keeps the invariant (R194). -/
theorem State.Inv.afterBusRead (h : s.Inv) : State.Inv { s with clients := (busRead s.chan s).1.clients } :=
  h.withClients (readFirst_bus _ s) (cursorsInside_readFirst _ h.cursors)

/-- A host command keeps the invariant. -/
theorem Ran.inv (h : Ran i s t) (hhost : i.isHost = true) (hinv : s.Inv) : t.Inv := by
  obtain ⟨hone, -⟩ := Config.wellFormed_channels hinv.cfgLegal
  cases h with
  | rejected => exact { hinv.idle with }
  | resetBridge =>
    obtain ⟨-, hppd, -⟩ := Config.wellFormed_status hinv.cfgLegal
    exact { hinv with chanLegal := hone, resetBits := fun _ _ _ => rfl, ppdSticky := fun _ => hppd }
  | resetBus =>
    refine { (hinv.afterBusReset).withPpd (fun j => getLsbD_statusAfterReset _ _ _ j) fun hclear => ?_ with }
    rw [statusAfterReset]
    split
    · exact getLsbD_statusPpd true s.status 1
    · rw [hclear, if_neg Bool.false_ne_true]
      exact hinv.ppdSticky hclear
  | readByte => exact { hinv.afterBusRead with }
  | awaits _ _ hop =>
    refine { hinv with pendingLegal := decide_eq_true ?_ }
    simp only [List.mem_cons, List.not_mem_nil, or_false] at hop
    have hmany : s.cfg.numChannels ≠ 1 → 1 < s.cfg.numChannels := by omega
    tauto
  | setPointer => exact { hinv.idle with }
  | writeConfig => exact { hinv.idle with }
  | broadcast => exact { (hinv.afterBusWrite _).idle with }
  | triplet => exact { (hinv.afterBusWrite _).idle with }
  | unsupported => exact { hinv with }
  | selectChannel hc => exact { hinv.idle with chanLegal := hc }
  | invalidChannel => exact { hinv.idle with }
  | client hclient => exact absurd (hclient.symm.trans hhost) Bool.false_ne_true

/-- A host write keeps the invariant. -/
theorem State.Inv.afterHostWrite {w : Byte} (hinv : s.Inv) (h : hostWrite w s = .next t) : t.Inv := by
  rcases hostWrite_ran h with ⟨_, h⟩ | ⟨_, i, hi, hran⟩ | ⟨_, i, hi, hran⟩ | ⟨_, h⟩ | ⟨_, h⟩
  · exact Host.Outcome.next.inj h ▸ { hinv.idle with }
  · exact hran.inv (decodeCommand_isHost hi) hinv
  · exact hran.inv (isHost_of_hasPayload (decodePayload_some hi).1) hinv
  · exact Host.Outcome.next.inj h ▸ { hinv with }
  · exact Host.Outcome.next.inj h ▸ { hinv.idle with }

/-- A host read keeps the invariant: a triplet step writes bits 6 and 7 of STATUS alone (R176; D12). -/
theorem State.Inv.afterHostRead (hinv : s.Inv) : (hostRead s).Inv := by
  rw [hostRead_frame]
  rcases hostRead_registers s with ⟨hstatus, -, -, hclients⟩ | ⟨-, ⟨bit, hstatus⟩, hclients⟩
  · rw [hstatus, hclients]
    exact { hinv with }
  · have hflags : ∀ j, 1 ≤ j → j ≤ 5 → (statusTriplet bit s.status).getLsbD j = s.status.getLsbD j := by
      intro j _ hj
      rw [getLsbD_statusTriplet, if_neg (by omega), if_neg (by omega)]
    rw [hstatus]
    rcases hclients with hclients | hclients
    · rw [hclients]
      exact { hinv.withStatus hflags with }
    · rw [hclients]
      exact { (hinv.afterBusRead).withStatus hflags with }

/-- A step of the platform keeps the invariant. -/
theorem PlatformRan.inv (h : PlatformRan s t) (hinv : s.Inv) : t.Inv := by
  cases h with
  | nothing => exact hinv
  | answered r => exact hinv.withResponse r
  | created c hc =>
    exact { hinv with
      attachments := fun b k => (hinv.attachments b k).trans (refersTo_append rfl k b).symm
      cursors := cursorsInside_append hinv.cursors (cursorInside_created hc) }
  | wired ch bus => exact { hinv with wiringTotal := (List.length_set ..).trans hinv.wiringTotal }
  | mastered hb =>
    exact { hinv with attachments := fun b k => (listed_set_master hb).trans (hinv.attachments b k) }
  | attached hb hk h =>
    have hcursor := cursorsInside_getElem? hinv.cursors hk
    exact { hinv with
      attachments := attachmentsAgree_attach hinv.attachments hb hk h
      cursors := cursorsInside_set hinv.cursors hcursor }
  | detached hb hk h =>
    have hcursor := cursorsInside_getElem? hinv.cursors hk
    exact { hinv with
      attachments := attachmentsAgree_detach hinv.attachments hb hk h
      cursors := cursorsInside_set hinv.cursors hcursor }
  | @configured k slot tc tc' hk hdev hq =>
    have hcursor : tc.cursorInside := hinv.cursors k slot tc hk hdev
    exact { hinv.withClients (map_bus_set s.clients (slot' := { slot with dev := .temp tc' }) hk rfl)
      (cursorsInside_set hinv.cursors (cursorInside_congr hq hcursor)) with }

/-- An event keeps the invariant. -/
theorem EventRan.inv {e : Event} (h : EventRan e s t) (hinv : s.Inv) : t.Inv := by
  cases h with
  | hostWrite h => exact hinv.withAccess.afterHostWrite h
  | hostRead => exact hinv.withAccess.afterHostRead
  | @forceBusy v =>
    exact hinv.withStatus fun j hj _ => by rw [getLsbD_statusBusy, if_neg (by omega)]
  | upstreamReset =>
    exact hinv.withPpd (fun j hj => by rw [getLsbD_statusPpd, if_neg hj.symm])
      fun _ => getLsbD_statusPpd true s.status 1
  | upstreamData =>
    rw [sendSelected_eq]
    exact hinv.afterBusWrite _
  | platform h => exact h.inv hinv

/-! ### The obligations -/

/-- Settles O55: the power-on state as it is written. -/
theorem powerOnValues : Obligations.PowerOnValues :=
  ⟨fun _ => ⟨rfl, rfl, rfl, rfl, rfl, rfl, rfl, rfl⟩, rfl, rfl, rfl⟩

/-- At power-on the invariant holds: no client exists yet, and every list is empty (R281; log 11). -/
theorem inv_powerOn {c : Config} (h : c.wellFormed = true) : (State.powerOn c).Inv where
  cfgLegal := h
  pendingLegal := by simp [State.pendingLegal, State.powerOn]
  chanLegal := (Config.wellFormed_channels h).1
  wiringTotal := by simp [State.powerOn]
  resetBits := fun _ _ _ => rfl
  ppdSticky := fun _ => (Config.wellFormed_status h).2.1
  attachments := by
    intro b k
    simp [State.powerOn, List.getElem?_replicate]
  cursors := fun _ _ _ hk => by simp [State.powerOn] at hk

/-- Settles O56: the invariant at power-on; the reset state is that of the legal defaults. -/
theorem powerOnMeetsTheInvariant : Obligations.PowerOnMeetsTheInvariant :=
  ⟨fun _ h => inv_powerOn h, inv_powerOn (by decide)⟩

/-- Settles O57: a step waits or runs one event, which keeps the invariant whichever agent's it is. -/
theorem everyStepKeepsTheInvariant : Obligations.EveryStepKeepsTheInvariant := by
  intro s t hinv h
  rcases step_ran h with ⟨-, rfl⟩ | ⟨e, rest, -, hran⟩
  · exact hinv
  · exact hran.inv (hinv.withInput)

end Sys2Proof.Machine
end
